-- ==== Sys2Proof/Word.lean ====
section
/-!
DEFINITION. The two word types of the machine (spec/00_scope.md rules R12 and R13): every register but the program
counter and every bus byte is an unsigned 8-bit value, and the program counter and every address are unsigned 16-bit
values. Sums on either wrap modulo the width, which is the addition of BitVec.
-/

namespace Sys2Proof

/-- `u8`: a register or one byte of the bus (R13). -/
abbrev Byte := BitVec 8

/-- `u16`: the program counter or a bus address (R13, R65). -/
abbrev Addr := BitVec 16

end Sys2Proof
end

