-- ==== Sys2Proof/Config.lean ====
section
/-!
DEFINITION. What the spec leaves to the platform. Every parameter of the block that spec/00_scope.md rule R12 fixes is
written where it is used. The one parameter it leaves OPEN, the bus, has its state as plain data in the state of the machine
(Machine/State.lean), and here, with no body, what the platform answers.
-/

namespace Sys2Proof

/-- One access the core makes on the bus, with the byte the bus answered or accepted (20_memory.md R78). -/
inductive Machine.Access where
  | read (addr : Addr) (value : Byte)
  | write (addr : Addr) (value : Byte)
  deriving DecidableEq, Repr

/-- The byte the platform answers to a read at an address it answers itself, after the accesses it has seen, newest first.
This is the OPEN parameter `Bus` (00_scope.md R12, 20_memory.md R60): the platform's own state is what its accesses have made
of it, so that a read and a write may change what any of its addresses answers later (R61). A free value: nothing constrains it,
and every statement holds whatever it is ("a model must treat the returned byte as whatever `Bus.read` answers", R61;
93_implementation_defined.md U3; DESIGN CHOICE, log entry 4; the free value is safe). -/
opaque Config.deviceByte : List Machine.Access → Addr → Byte

end Sys2Proof
end

