-- ==== Sys2Proof/Machine/Bits.lean ====
section
/-!
DEFINITION. Byte order, extension and page arithmetic, once for the whole machine (spec/00_scope.md rule R13,
20_memory.md rules R66, R67, R74).
-/

namespace Sys2Proof

/-- `hi ++ lo`: `hi` in bits 15 to 8, `lo` in bits 7 to 0 (R13, R67). -/
def word (hi lo : Byte) : Addr := hi ++ lo

/-- `v[15:8]`. -/
def hiByte (v : Addr) : Byte := v.extractLsb' 8 8

/-- `v[7:0]`. -/
def loByte (v : Addr) : Byte := v.extractLsb' 0 8

/-- `zext_16(v)` (R13). -/
def zext16 (v : Byte) : Addr := v.setWidth 16

/-- `sext_16(v)`: bit 7 copied into bits 15 to 8 (R13). -/
def sext16 (v : Byte) : Addr := v.signExtend 16

/-- The second byte of a jump pointer: the next address INSIDE the pointer's own page (40_fetch_decode_execute.md rule
R148, the page-wrap bug). -/
def nextInPage (ptr : Addr) : Addr := (ptr &&& 0xFF00#16) ||| ((ptr + 1) &&& 0x00FF#16)

end Sys2Proof
end

