-- ==== Sys2Proof/Machine/Flags.lean ====
section
/-!
DEFINITION. The flag algebra (spec/10_state.md rules R26, R27 and R40 to R47) as pure functions over the status byte, and
every flag computation of the instruction rules (41_arithmetic.md R170, 43_shift_rotate.md R191 to R194, 44_compare.md R200).
-/

namespace Sys2Proof.Machine

/-- The flags that instructions write and test (R26, R45); B and U are no storage (R32, R33). -/
inductive Flag where
  | carry | zero | interruptDisable | decimal | overflow | negative
  deriving DecidableEq, Repr

/-- The mask of a flag (R26). -/
def Flag.mask : Flag → Byte
  | .carry => 0x01#8
  | .zero => 0x02#8
  | .interruptDisable => 0x04#8
  | .decimal => 0x08#8
  | .overflow => 0x40#8
  | .negative => 0x80#8

/-- Is the flag set in a status byte (R26)? -/
def testFlag (p : Byte) (f : Flag) : Bool := (p &&& f.mask) != 0#8

/-- The filter of every write of P: bit 4 (B) is 0 and bit 5 (U) is 1 (R27). -/
def filterP (v : Byte) : Byte := (v &&& 0xCF#8) ||| 0x20#8

/-- R40. -/
def withCarry (p : Byte) (c : Bool) : Byte := (p &&& ~~~0x01#8) ||| (if c then 0x01#8 else 0#8)

/-- R41. -/
def withZero (p v : Byte) : Byte := (p &&& ~~~0x02#8) ||| (if v = 0#8 then 0x02#8 else 0#8)

/-- R42. -/
def withNegative (p v : Byte) : Byte := (p &&& ~~~0x80#8) ||| (v &&& 0x80#8)

/-- The signed-overflow rule: the addends' signs match and the result's differs (R43, R170). -/
def signedOverflow (a b r : Byte) : Bool := a.msb == b.msb && r.msb != a.msb

/-- R43; the current V is not an input. -/
def withOverflow (p a b r : Byte) : Byte := (p &&& ~~~0x40#8) ||| (if signedOverflow a b r then 0x40#8 else 0#8)

/-- R44. -/
def withInterruptDisable (p : Byte) (s : Bool) : Byte := (p &&& ~~~0x04#8) ||| (if s then 0x04#8 else 0#8)

/-- R45. -/
def setFlag (p : Byte) (f : Flag) (b : Bool) : Byte := (p &&& ~~~f.mask) ||| (if b then f.mask else 0#8)

/-- R46. -/
def setNZ (p v : Byte) : Byte := withNegative (withZero p v) v

/-- The copy of P that is pushed: U is 1, and B is 1 for BRK and PHP, 0 for IRQ and NMI (R47). -/
def pushedP (p : Byte) (brk : Bool) : Byte := p ||| 0x20#8 ||| (if brk then 0x10#8 else 0#8)

/-- The result of the binary adder (R170). -/
structure Sum where
  r : Byte
  cout : Bool
  v : Bool
  deriving DecidableEq, Repr

/-- `Add(a, b, cin)`: one 9-bit binary addition, whatever P.D is (R170, R171). -/
def addBytes (a b : Byte) (cin : Bool) : Sum :=
  let t9 : BitVec 9 := a.setWidth 9 + b.setWidth 9 + (BitVec.ofBool cin).setWidth 9
  let r : Byte := t9.setWidth 8
  { r := r, cout := t9.getLsbD 8, v := signedOverflow a b r }

/-- `Compare(reg, M)`: the status after it (R200). -/
def compareP (p reg m : Byte) : Byte := setNZ (withCarry p (decide (m ≤ reg))) (reg - m)

/-- A shift's or rotate's status: C takes the bit shifted out, N and Z follow the result (R190). -/
def shiftP (p r : Byte) (c : Bool) : Byte := setNZ (withCarry p c) r

/-- ASL: the result and the status (R191). -/
def aslByte (m p : Byte) : Byte × Byte := (m <<< 1, shiftP p (m <<< 1) (m.getLsbD 7))

/-- LSR: the result and the status (R192). -/
def lsrByte (m p : Byte) : Byte × Byte := (m >>> 1, shiftP p (m >>> 1) (m.getLsbD 0))

/-- ROL: the old C enters at bit 0 (R193). -/
def rolByte (m p : Byte) : Byte × Byte :=
  let r := (m <<< 1) ||| (if testFlag p .carry then 0x01#8 else 0#8)
  (r, shiftP p r (m.getLsbD 7))

/-- ROR: the old C enters at bit 7 (R194). -/
def rorByte (m p : Byte) : Byte × Byte :=
  let r := (m >>> 1) ||| (if testFlag p .carry then 0x80#8 else 0#8)
  (r, shiftP p r (m.getLsbD 0))

/-- INC: the result and the status (R289). -/
def incByte (m p : Byte) : Byte × Byte := (m + 1, setNZ p (m + 1))

/-- DEC: the result and the status (R290). -/
def decByte (m p : Byte) : Byte × Byte := (m - 1, setNZ p (m - 1))

/-- BIT: N and V from the operand, Z from `A & M` (R184). -/
def bitP (p a m : Byte) : Byte := setFlag (withNegative (withZero p (a &&& m)) m) .overflow (m.getLsbD 6)

end Sys2Proof.Machine
end

