-- ==== Sys2Proof/Syntax.lean ====
section
/-!
DEFINITION. The instructions, one constructor for each of the 151 rows of spec/opcode_table.json (30_encoding.md rules
R107 and R108): a (mnemonic, addressing mode) pair with the operand field its format carries (R101 to R105). A one-byte
field is a Byte, the 16-bit field of format F3 an Addr, so a term of this type carries exactly the bits its encoding has.
A mnemonic with one mode only gives its constructor its name; the others add the mode: Acc Accumulator, Imm Immediate,
Zp ZeroPage, ZpX ZeroPageX, ZpY ZeroPageY, Abs Absolute, AbsX AbsoluteX, AbsY AbsoluteY, Ind Indirect, IndX
IndexedIndirectX, IndY IndirectIndexedY.
-/

namespace Sys2Proof

inductive Instr where
  -- spec/41_arithmetic.md
  | adcImm (imm : Byte)  -- ADC #$nn, opcode 0x69 (R172)
  | adcZp (zp : Byte)  -- ADC $nn, opcode 0x65 (R172)
  | adcZpX (zp : Byte)  -- ADC $nn,X, opcode 0x75 (R172)
  | adcAbs (addr : Addr)  -- ADC $nnnn, opcode 0x6D (R172)
  | adcAbsX (addr : Addr)  -- ADC $nnnn,X, opcode 0x7D (R172)
  | adcAbsY (addr : Addr)  -- ADC $nnnn,Y, opcode 0x79 (R172)
  | adcIndX (zp : Byte)  -- ADC ($nn,X), opcode 0x61 (R172)
  | adcIndY (zp : Byte)  -- ADC ($nn),Y, opcode 0x71 (R172)
  | sbcImm (imm : Byte)  -- SBC #$nn, opcode 0xE9 (R173)
  | sbcZp (zp : Byte)  -- SBC $nn, opcode 0xE5 (R173)
  | sbcZpX (zp : Byte)  -- SBC $nn,X, opcode 0xF5 (R173)
  | sbcAbs (addr : Addr)  -- SBC $nnnn, opcode 0xED (R173)
  | sbcAbsX (addr : Addr)  -- SBC $nnnn,X, opcode 0xFD (R173)
  | sbcAbsY (addr : Addr)  -- SBC $nnnn,Y, opcode 0xF9 (R173)
  | sbcIndX (zp : Byte)  -- SBC ($nn,X), opcode 0xE1 (R173)
  | sbcIndY (zp : Byte)  -- SBC ($nn),Y, opcode 0xF1 (R173)
  -- spec/42_logical.md
  | andImm (imm : Byte)  -- AND #$nn, opcode 0x29 (R181)
  | andZp (zp : Byte)  -- AND $nn, opcode 0x25 (R181)
  | andZpX (zp : Byte)  -- AND $nn,X, opcode 0x35 (R181)
  | andAbs (addr : Addr)  -- AND $nnnn, opcode 0x2D (R181)
  | andAbsX (addr : Addr)  -- AND $nnnn,X, opcode 0x3D (R181)
  | andAbsY (addr : Addr)  -- AND $nnnn,Y, opcode 0x39 (R181)
  | andIndX (zp : Byte)  -- AND ($nn,X), opcode 0x21 (R181)
  | andIndY (zp : Byte)  -- AND ($nn),Y, opcode 0x31 (R181)
  | oraImm (imm : Byte)  -- ORA #$nn, opcode 0x09 (R182)
  | oraZp (zp : Byte)  -- ORA $nn, opcode 0x05 (R182)
  | oraZpX (zp : Byte)  -- ORA $nn,X, opcode 0x15 (R182)
  | oraAbs (addr : Addr)  -- ORA $nnnn, opcode 0x0D (R182)
  | oraAbsX (addr : Addr)  -- ORA $nnnn,X, opcode 0x1D (R182)
  | oraAbsY (addr : Addr)  -- ORA $nnnn,Y, opcode 0x19 (R182)
  | oraIndX (zp : Byte)  -- ORA ($nn,X), opcode 0x01 (R182)
  | oraIndY (zp : Byte)  -- ORA ($nn),Y, opcode 0x11 (R182)
  | eorImm (imm : Byte)  -- EOR #$nn, opcode 0x49 (R183)
  | eorZp (zp : Byte)  -- EOR $nn, opcode 0x45 (R183)
  | eorZpX (zp : Byte)  -- EOR $nn,X, opcode 0x55 (R183)
  | eorAbs (addr : Addr)  -- EOR $nnnn, opcode 0x4D (R183)
  | eorAbsX (addr : Addr)  -- EOR $nnnn,X, opcode 0x5D (R183)
  | eorAbsY (addr : Addr)  -- EOR $nnnn,Y, opcode 0x59 (R183)
  | eorIndX (zp : Byte)  -- EOR ($nn,X), opcode 0x41 (R183)
  | eorIndY (zp : Byte)  -- EOR ($nn),Y, opcode 0x51 (R183)
  | bitZp (zp : Byte)  -- BIT $nn, opcode 0x24 (R184)
  | bitAbs (addr : Addr)  -- BIT $nnnn, opcode 0x2C (R184)
  -- spec/43_shift_rotate.md
  | aslAcc  -- ASL A, opcode 0x0A (R191)
  | aslZp (zp : Byte)  -- ASL $nn, opcode 0x06 (R191)
  | aslZpX (zp : Byte)  -- ASL $nn,X, opcode 0x16 (R191)
  | aslAbs (addr : Addr)  -- ASL $nnnn, opcode 0x0E (R191)
  | aslAbsX (addr : Addr)  -- ASL $nnnn,X, opcode 0x1E (R191)
  | lsrAcc  -- LSR A, opcode 0x4A (R192)
  | lsrZp (zp : Byte)  -- LSR $nn, opcode 0x46 (R192)
  | lsrZpX (zp : Byte)  -- LSR $nn,X, opcode 0x56 (R192)
  | lsrAbs (addr : Addr)  -- LSR $nnnn, opcode 0x4E (R192)
  | lsrAbsX (addr : Addr)  -- LSR $nnnn,X, opcode 0x5E (R192)
  | rolAcc  -- ROL A, opcode 0x2A (R193)
  | rolZp (zp : Byte)  -- ROL $nn, opcode 0x26 (R193)
  | rolZpX (zp : Byte)  -- ROL $nn,X, opcode 0x36 (R193)
  | rolAbs (addr : Addr)  -- ROL $nnnn, opcode 0x2E (R193)
  | rolAbsX (addr : Addr)  -- ROL $nnnn,X, opcode 0x3E (R193)
  | rorAcc  -- ROR A, opcode 0x6A (R194)
  | rorZp (zp : Byte)  -- ROR $nn, opcode 0x66 (R194)
  | rorZpX (zp : Byte)  -- ROR $nn,X, opcode 0x76 (R194)
  | rorAbs (addr : Addr)  -- ROR $nnnn, opcode 0x6E (R194)
  | rorAbsX (addr : Addr)  -- ROR $nnnn,X, opcode 0x7E (R194)
  -- spec/44_compare.md
  | cmpImm (imm : Byte)  -- CMP #$nn, opcode 0xC9 (R201)
  | cmpZp (zp : Byte)  -- CMP $nn, opcode 0xC5 (R201)
  | cmpZpX (zp : Byte)  -- CMP $nn,X, opcode 0xD5 (R201)
  | cmpAbs (addr : Addr)  -- CMP $nnnn, opcode 0xCD (R201)
  | cmpAbsX (addr : Addr)  -- CMP $nnnn,X, opcode 0xDD (R201)
  | cmpAbsY (addr : Addr)  -- CMP $nnnn,Y, opcode 0xD9 (R201)
  | cmpIndX (zp : Byte)  -- CMP ($nn,X), opcode 0xC1 (R201)
  | cmpIndY (zp : Byte)  -- CMP ($nn),Y, opcode 0xD1 (R201)
  | cpxImm (imm : Byte)  -- CPX #$nn, opcode 0xE0 (R202)
  | cpxZp (zp : Byte)  -- CPX $nn, opcode 0xE4 (R202)
  | cpxAbs (addr : Addr)  -- CPX $nnnn, opcode 0xEC (R202)
  | cpyImm (imm : Byte)  -- CPY #$nn, opcode 0xC0 (R203)
  | cpyZp (zp : Byte)  -- CPY $nn, opcode 0xC4 (R203)
  | cpyAbs (addr : Addr)  -- CPY $nnnn, opcode 0xCC (R203)
  -- spec/45_branch.md
  | bcc (rel : Byte)  -- BCC label, opcode 0x90 (R212)
  | bcs (rel : Byte)  -- BCS label, opcode 0xB0 (R213)
  | beq (rel : Byte)  -- BEQ label, opcode 0xF0 (R214)
  | bne (rel : Byte)  -- BNE label, opcode 0xD0 (R215)
  | bmi (rel : Byte)  -- BMI label, opcode 0x30 (R216)
  | bpl (rel : Byte)  -- BPL label, opcode 0x10 (R217)
  | bvc (rel : Byte)  -- BVC label, opcode 0x50 (R218)
  | bvs (rel : Byte)  -- BVS label, opcode 0x70 (R219)
  -- spec/46_stack_control.md
  | brk  -- BRK, opcode 0x00 (R231)
  | jsr (addr : Addr)  -- JSR $nnnn, opcode 0x20 (R232)
  | rts  -- RTS, opcode 0x60 (R233)
  | rti  -- RTI, opcode 0x40 (R234)
  | jmpAbs (addr : Addr)  -- JMP $nnnn, opcode 0x4C (R235)
  | jmpInd (addr : Addr)  -- JMP ($nnnn), opcode 0x6C (R235)
  | pha  -- PHA, opcode 0x48 (R236)
  | php  -- PHP, opcode 0x08 (R237)
  | pla  -- PLA, opcode 0x68 (R238)
  | plp  -- PLP, opcode 0x28 (R239)
  -- spec/47_register_ops.md
  | inx  -- INX, opcode 0xE8 (R251)
  | iny  -- INY, opcode 0xC8 (R252)
  | dex  -- DEX, opcode 0xCA (R253)
  | dey  -- DEY, opcode 0x88 (R254)
  | clc  -- CLC, opcode 0x18 (R256)
  | cld  -- CLD, opcode 0xD8 (R257)
  | cli  -- CLI, opcode 0x58 (R258)
  | clv  -- CLV, opcode 0xB8 (R259)
  | sec  -- SEC, opcode 0x38 (R260)
  | sed  -- SED, opcode 0xF8 (R261)
  | sei  -- SEI, opcode 0x78 (R262)
  | tax  -- TAX, opcode 0xAA (R264)
  | tay  -- TAY, opcode 0xA8 (R265)
  | txa  -- TXA, opcode 0x8A (R266)
  | tya  -- TYA, opcode 0x98 (R267)
  | tsx  -- TSX, opcode 0xBA (R268)
  | txs  -- TXS, opcode 0x9A (R269)
  | nop  -- NOP, opcode 0xEA (R271)
  -- spec/48_load_store_memory.md
  | ldaImm (imm : Byte)  -- LDA #$nn, opcode 0xA9 (R281)
  | ldaZp (zp : Byte)  -- LDA $nn, opcode 0xA5 (R281)
  | ldaZpX (zp : Byte)  -- LDA $nn,X, opcode 0xB5 (R281)
  | ldaAbs (addr : Addr)  -- LDA $nnnn, opcode 0xAD (R281)
  | ldaAbsX (addr : Addr)  -- LDA $nnnn,X, opcode 0xBD (R281)
  | ldaAbsY (addr : Addr)  -- LDA $nnnn,Y, opcode 0xB9 (R281)
  | ldaIndX (zp : Byte)  -- LDA ($nn,X), opcode 0xA1 (R281)
  | ldaIndY (zp : Byte)  -- LDA ($nn),Y, opcode 0xB1 (R281)
  | ldxImm (imm : Byte)  -- LDX #$nn, opcode 0xA2 (R282)
  | ldxZp (zp : Byte)  -- LDX $nn, opcode 0xA6 (R282)
  | ldxZpY (zp : Byte)  -- LDX $nn,Y, opcode 0xB6 (R282)
  | ldxAbs (addr : Addr)  -- LDX $nnnn, opcode 0xAE (R282)
  | ldxAbsY (addr : Addr)  -- LDX $nnnn,Y, opcode 0xBE (R282)
  | ldyImm (imm : Byte)  -- LDY #$nn, opcode 0xA0 (R283)
  | ldyZp (zp : Byte)  -- LDY $nn, opcode 0xA4 (R283)
  | ldyZpX (zp : Byte)  -- LDY $nn,X, opcode 0xB4 (R283)
  | ldyAbs (addr : Addr)  -- LDY $nnnn, opcode 0xAC (R283)
  | ldyAbsX (addr : Addr)  -- LDY $nnnn,X, opcode 0xBC (R283)
  | staZp (zp : Byte)  -- STA $nn, opcode 0x85 (R285)
  | staZpX (zp : Byte)  -- STA $nn,X, opcode 0x95 (R285)
  | staAbs (addr : Addr)  -- STA $nnnn, opcode 0x8D (R285)
  | staAbsX (addr : Addr)  -- STA $nnnn,X, opcode 0x9D (R285)
  | staAbsY (addr : Addr)  -- STA $nnnn,Y, opcode 0x99 (R285)
  | staIndX (zp : Byte)  -- STA ($nn,X), opcode 0x81 (R285)
  | staIndY (zp : Byte)  -- STA ($nn),Y, opcode 0x91 (R285)
  | stxZp (zp : Byte)  -- STX $nn, opcode 0x86 (R286)
  | stxZpY (zp : Byte)  -- STX $nn,Y, opcode 0x96 (R286)
  | stxAbs (addr : Addr)  -- STX $nnnn, opcode 0x8E (R286)
  | styZp (zp : Byte)  -- STY $nn, opcode 0x84 (R287)
  | styZpX (zp : Byte)  -- STY $nn,X, opcode 0x94 (R287)
  | styAbs (addr : Addr)  -- STY $nnnn, opcode 0x8C (R287)
  | incZp (zp : Byte)  -- INC $nn, opcode 0xE6 (R289)
  | incZpX (zp : Byte)  -- INC $nn,X, opcode 0xF6 (R289)
  | incAbs (addr : Addr)  -- INC $nnnn, opcode 0xEE (R289)
  | incAbsX (addr : Addr)  -- INC $nnnn,X, opcode 0xFE (R289)
  | decZp (zp : Byte)  -- DEC $nn, opcode 0xC6 (R290)
  | decZpX (zp : Byte)  -- DEC $nn,X, opcode 0xD6 (R290)
  | decAbs (addr : Addr)  -- DEC $nnnn, opcode 0xCE (R290)
  | decAbsX (addr : Addr)  -- DEC $nnnn,X, opcode 0xDE (R290)
  deriving DecidableEq, Repr

end Sys2Proof
end

