-- ==== Sys2Proof/Machine/State.lean ====
section
/-!
DEFINITION. The machine's state as plain data (spec/10_state.md, 20_memory.md), the reasons a step can stop, and the state
right after reset (10_state.md rule R48).
-/

namespace Sys2Proof.Machine

/-- The registers that can be unwritten (R24, R307). -/
inductive Reg where
  | a | x | y
  deriving DecidableEq, Repr

/-- Who answers at an address of the bus (R60 to R62): memory; memory that a write does not change ("behavior for
read-only regions is the bus's concern"); or the platform (`device`), whose answer is any byte and may change with every access
the platform sees (R61; 93_implementation_defined.md U3). A mapper's switched addresses are the platform's. -/
inductive RegionKind where
  | ram | rom | device
  deriving DecidableEq, Repr

/-- A run of bus addresses, from `base` on, that one party answers. -/
structure Region where
  base : Nat
  size : Nat
  kind : RegionKind
  deriving DecidableEq, Repr

/-- The state of the external bus (R60) as plain data; `Bus.readByte` and `Bus.writeByte` are its two operations. A bus whose
map gives every address to the platform is the OPEN parameter itself: each `read` and `write` of R60 is an instance of it
(Laws/Memory.lean, `Bus.device_instance`). The other kinds say of an address what the platform promises there (DESIGN CHOICE, log
entries 3 to 6 and 8). -/
structure Bus where
  /-- The bytes of memory, in the canonical form of `Memory.wf`. -/
  mem : List Host.Cell
  /-- The platform's map; the first region that holds an address decides, and an address in none is memory. -/
  regions : List Region
  /-- The platform's own state (R60, R61): the accesses it has seen, newest first, which are every access at an address it
  answers and every write to read-only memory. -/
  seen : List Access
  /-- MODEL field: the accesses of the last step or host move, oldest first (R78). -/
  log : List Access
  deriving DecidableEq, Repr

/-- What a completed step returns (R135). -/
structure StepResult where
  /-- "the number of bytes consumed": the length of the mode. -/
  length : Nat
  /-- Did the handler give a program-counter override? -/
  jumped : Bool
  deriving DecidableEq, Repr

/-- The processor state (R20), what the spec says of unwritten registers (R24), what the last step returned (R135), and the
bus. -/
structure State where
  a : Byte
  x : Byte
  y : Byte
  sp : Byte
  p : Byte
  pc : Addr
  /-- Has A been written since reset (R24, R48)? -/
  aWritten : Bool
  /-- Has X been written since reset (R24, R48)? -/
  xWritten : Bool
  /-- Has Y been written since reset (R24, R48)? -/
  yWritten : Bool
  /-- The StepResult of the last step; none after reset, IRQ or NMI entry, which are no steps (R310, R314). -/
  result : Option StepResult
  bus : Bus
  deriving DecidableEq, Repr

/-- Why the machine stops. -/
inductive Fault where
  /-- `UnimplementedOpcode(byte)` (R301): raised by `step` and `checkedStep` when the fetched byte is one of the 105 unmapped
  bytes. It is the spec's own outcome. Safe: silicon executes some of these bytes, so nothing false can be proved. -/
  | unimplementedOpcode (op : Byte)
  /-- `UnwrittenRegister(r)` (R307), the spec's model fault: raised by `checkedStep` alone, never by `step` or `exec`, when an
  instruction reads A, X or Y before its first write since reset. Safe: it stops where the chip goes on. -/
  | unwrittenRegister (r : Reg)
  deriving DecidableEq, Repr

/-- Why an instruction has no meaning here. -/
inductive Refusal where
  /-- An instruction whose arm of `exec` is not written; no arm raises it, as all 151 have their meaning. Safe. -/
  | notModelled (mnemonic : String)
  deriving DecidableEq, Repr

/-- The outcome of a step of this machine. -/
abbrev Out := Host.Outcome State Fault Refusal

/-- The machine right after reset (R48, R330): SP, P as the spec states, PC from the vector at 0xFFFC/0xFFFD, which the bus of
log entries 3 and 5 answers with 0x00 twice, A, X and Y unwritten, holding the value of log entry 1, and the two vector reads
logged. -/
def State.reset : State where
  a := 0x00#8
  x := 0x00#8
  y := 0x00#8
  sp := 0xFD#8
  p := 0x24#8
  pc := 0x0000#16
  aWritten := false
  xWritten := false
  yWritten := false
  result := none
  bus := { mem := [], regions := [], seen := [], log := [.read 0xFFFC#16 0x00#8, .read 0xFFFD#16 0x00#8] }

end Sys2Proof.Machine
end

