-- ==== Sys2Proof/Machine/Ops.lean ====
section
/-!
DEFINITION. The named operations over memory, the bus and the registers: memory in its canonical form, the bus accesses
(spec/20_memory.md), the register writes (10_state.md), the stack (R75, R76), the commit of a step (40_fetch_decode_execute.md
R134, R135), taking an exception (60_exceptions.md R303) and returning from one (46_stack_control.md R234).
-/

namespace Sys2Proof.Machine

/-! Memory: a list of (address, byte) pairs with rising addresses and no entry equal to the background. -/

/-- What an unlisted address reads as; the spec gives no power-on contents (DESIGN CHOICE, unsafe, log entry 3). -/
def Memory.background : Byte := 0x00#8

/-- Addresses rise from `lo` on, stay in the space of R65, and no entry holds the background. -/
def Memory.wfFrom : Nat → List Host.Cell → Bool
  | _, [] => true
  | lo, (k, v) :: rest => decide (lo ≤ k) && decide (k < 65536) && (v != background) && wfFrom (k + 1) rest

/-- The canonical form: equal memories are equal lists. -/
def Memory.wf (m : List Host.Cell) : Bool := wfFrom 0 m

/-- The byte memory holds at an address. -/
def Memory.read : List Host.Cell → Addr → Byte
  | [], _ => background
  | (k, v) :: rest, a => if k = a.toNat then v else read rest a

/-- Memory without an entry for an address. -/
def Memory.erase : List Host.Cell → Addr → List Host.Cell
  | [], _ => []
  | (k, v) :: rest, a => if k = a.toNat then erase rest a else (k, v) :: erase rest a

/-- Memory with one more entry, at its place. -/
def Memory.insert : List Host.Cell → Addr → Byte → List Host.Cell
  | [], a, v => [(a.toNat, v)]
  | (k, w) :: rest, a, v => if a.toNat < k then (a.toNat, v) :: (k, w) :: rest else (k, w) :: insert rest a v

/-- Memory after a byte is written; writing the background removes the entry. -/
def Memory.write (m : List Host.Cell) (a : Addr) (v : Byte) : List Host.Cell :=
  if v = background then erase m a else insert (erase m a) a v

/-! The bus (R60 to R64). -/

/-- Does the region hold the address? -/
def Region.holds (r : Region) (a : Addr) : Bool := decide (r.base ≤ a.toNat) && decide (a.toNat < r.base + r.size)

/-- Who answers at an address. -/
def kindIn : List Region → Addr → RegionKind
  | [], _ => .ram
  | r :: rest, a => if r.holds a then r.kind else kindIn rest a

/-- Who answers at an address of this bus. -/
def Bus.kindAt (b : Bus) (a : Addr) : RegionKind := kindIn b.regions a

/-- The bus with one more access in its log (R78). -/
def Bus.record (b : Bus) (x : Access) : Bus := { b with log := b.log ++ [x] }

/-- The byte the bus would answer to a read now (R61). -/
def Bus.answer (b : Bus) (a : Addr) : Byte :=
  match b.kindAt a with
  | .device => Config.deviceByte b.seen a
  | .ram | .rom => Memory.read b.mem a

/-- The bus after an access that the platform sees (R61, R62). -/
def Bus.notice (b : Bus) (x : Access) : Bus := { b with seen := x :: b.seen }

/-- `read : Bus -> u16 -> (u8, Bus)` (R60, R61): the answer, and the bus after it. -/
def Bus.readByte (b : Bus) (a : Addr) : Byte × Bus :=
  let v := b.answer a
  match b.kindAt a with
  | .device => (v, (b.record (.read a v)).notice (.read a v))
  | .ram | .rom => (v, b.record (.read a v))

/-- `write : Bus -> u16 -> u8 -> Bus` (R60, R62): every write is accepted; memory takes it, or the platform sees it. -/
def Bus.writeByte (b : Bus) (a : Addr) (v : Byte) : Bus :=
  match b.kindAt a with
  | .ram => { b.record (.write a v) with mem := Memory.write b.mem a v }
  | .rom | .device => (b.record (.write a v)).notice (.write a v)

/-! Registers. Every write of a register goes through these. -/

/-- `A <- v` (R21, R24). -/
def State.setA (s : State) (v : Byte) : State := { s with a := v, aWritten := true }

/-- `X <- v` (R22, R24). -/
def State.setX (s : State) (v : Byte) : State := { s with x := v, xWritten := true }

/-- `Y <- v` (R23, R24). -/
def State.setY (s : State) (v : Byte) : State := { s with y := v, yWritten := true }

/-- `SP <- v` (R25). -/
def State.setSP (s : State) (v : Byte) : State := { s with sp := v }

/-- `P <- v`, through the filter of R27. -/
def State.setP (s : State) (v : Byte) : State := { s with p := filterP v }

/-- `PC <- v` (R37). -/
def State.setPC (s : State) (v : Addr) : State := { s with pc := v }

/-- The bus after an access. -/
def State.setBus (s : State) (b : Bus) : State := { s with bus := b }

/-- P as it reads: bit 5 is 1 and bit 4 is 0 at all times (R27, R32, R33). -/
def State.status (s : State) : Byte := filterP s.p

/-- A flag of P (R14, R26). -/
def State.flag (s : State) (f : Flag) : Bool := testFlag s.status f

/-- The byte that memory holds at an address, with no access made. -/
def State.byteAt (s : State) (a : Addr) : Byte := Memory.read s.bus.mem a

/-! Memory primitives (R15). -/

/-- `MemRead(addr, 1)`. -/
def State.memRead (s : State) (a : Addr) : Byte × State :=
  ((s.bus.readByte a).1, s.setBus (s.bus.readByte a).2)

/-- `MemWrite(addr, 1, v)`. -/
def State.memWrite (s : State) (a : Addr) (v : Byte) : State := s.setBus (s.bus.writeByte a v)

/-- `Word(lo_addr, hi_addr)`: the low byte is read first (R15, R67). -/
def State.readWord (s : State) (loAddr hiAddr : Addr) : Addr × State :=
  let lo := s.memRead loAddr
  let hi := lo.2.memRead hiAddr
  (word hi.1 lo.1, hi.2)

/-! The stack (R25, R75 to R77). -/

/-- `0x0100 | zext_16(SP)` (R25). -/
def stackAddr (sp : Byte) : Addr := 0x0100#16 ||| zext16 sp

/-- `Push(v)`: the write precedes the decrement (R75). -/
def State.push (s : State) (v : Byte) : State := (s.memWrite (stackAddr s.sp) v).setSP (s.sp - 1)

/-- `Pull()`: the increment precedes the read (R76). -/
def State.pull (s : State) : Byte × State := (s.setSP (s.sp + 1)).memRead (stackAddr (s.sp + 1))

/-- A 16-bit value pushed high byte first (R68). -/
def State.pushWord (s : State) (v : Addr) : State := (s.push (hiByte v)).push (loByte v)

/-- A 16-bit value pulled low byte first (R68). -/
def State.pullWord (s : State) : Addr × State :=
  let lo := s.pull
  let hi := lo.2.pull
  (word hi.1 lo.1, hi.2)

/-! The commit of a step (R134, R135). -/

/-- The end of a step: PC takes the handler's override, or else moves past the instruction, and the StepResult is given. -/
def State.commit (s : State) (length : Nat) (override : Option Addr) : State :=
  { s with
    pc := override.getD (s.pc + BitVec.ofNat 16 length)
    result := some { length := length, jumped := override.isSome } }

/-! Taking an exception, and returning from one. -/

/-- The NMI vector (R72, R304). -/
def nmiVector : Addr := 0xFFFA#16

/-- The reset vector (R72, R304). -/
def resetVector : Addr := 0xFFFC#16

/-- The vector of IRQ and BRK (R72, R304). -/
def irqVector : Addr := 0xFFFE#16

/-- `Entry(vec, ret, brk)`, the shared entry sequence (R303): `ret` and P are pushed, I is set, and PC takes the vector. -/
def State.enter (s : State) (vec ret : Addr) (brk : Bool) : State :=
  let pushed := (s.pushWord ret).push (pushedP s.status brk)
  let masked := pushed.setP (withInterruptDisable pushed.status true)
  let target := masked.readWord vec (vec + 1)
  target.2.setPC target.1

/-- The return from an exception (R234, R312): P from the stack through its filter, then PC, with no +1. -/
def State.returnFromInterrupt (s : State) : State :=
  let status := s.pull
  let target := (status.2.setP status.1).pullWord
  target.2.setPC target.1

end Sys2Proof.Machine
end

