-- ==== Sys2Proof/WellFormed.lean ====
section
/-!
DEFINITION. Which (mnemonic, addressing mode) pairs spell an instruction (spec/30_encoding.md rules R100, R107 and R108:
"an empty cell means the pair does not exist and spells no instruction"), and every instruction's own pair. The operand
fields need no check: their types have exactly the width the encoding gives them (R102 to R105).
-/

namespace Sys2Proof

/-- The 56 mnemonics of the opcode table (R3, R108). -/
inductive Mnemonic where
  | adc | sbc | and | ora | eor | bit | asl | lsr
  | rol | ror | cmp | cpx | cpy | bcc | bcs | beq
  | bne | bmi | bpl | bvc | bvs | brk | jsr | rts
  | rti | jmp | pha | php | pla | plp | inx | iny
  | dex | dey | clc | cld | cli | clv | sec | sed
  | sei | tax | tay | txa | tya | tsx | txs | nop
  | lda | ldx | ldy | sta | stx | sty | inc | dec
  deriving DecidableEq, Repr

/-- The 13 addressing modes (R101). -/
inductive Mode where
  | implied | accumulator | immediate | zeroPage | zeroPageX | zeroPageY | absolute | absoluteX | absoluteY
  | indirect | indexedIndirectX | indirectIndexedY | relative
  deriving DecidableEq, Repr

/-- An operand in one of the eight modes that name a byte of memory (R142 to R147, R149, R150), with its operand field. -/
inductive MemOperand where
  | zeroPage (zp : Byte)
  | zeroPageX (zp : Byte)
  | zeroPageY (zp : Byte)
  | absolute (addr : Addr)
  | absoluteX (addr : Addr)
  | absoluteY (addr : Addr)
  | indexedIndirectX (zp : Byte)
  | indirectIndexedY (zp : Byte)
  deriving DecidableEq, Repr

/-- An instruction's operand: its addressing mode with the operand field of that mode (R139 to R151). -/
inductive Operand where
  | implied
  | accumulator
  | immediate (imm : Byte)
  | memory (o : MemOperand)
  | indirect (addr : Addr)
  | relative (rel : Byte)
  deriving DecidableEq, Repr

/-- The mode of a memory operand. -/
def MemOperand.mode : MemOperand → Mode
  | .zeroPage _ => .zeroPage
  | .zeroPageX _ => .zeroPageX
  | .zeroPageY _ => .zeroPageY
  | .absolute _ => .absolute
  | .absoluteX _ => .absoluteX
  | .absoluteY _ => .absoluteY
  | .indexedIndirectX _ => .indexedIndirectX
  | .indirectIndexedY _ => .indirectIndexedY

/-- The mode of an operand. -/
def Operand.mode : Operand → Mode
  | .implied => .implied
  | .accumulator => .accumulator
  | .immediate _ => .immediate
  | .memory o => o.mode
  | .indirect _ => .indirect
  | .relative _ => .relative

/-- The row of R108 for a mnemonic: the modes that exist for it. -/
def Mnemonic.modes : Mnemonic → List Mode
  | .adc | .sbc | .and | .ora | .eor | .cmp | .lda =>
    [.immediate, .zeroPage, .zeroPageX, .absolute, .absoluteX, .absoluteY, .indexedIndirectX, .indirectIndexedY]
  | .bit =>
    [.zeroPage, .absolute]
  | .asl | .lsr | .rol | .ror =>
    [.accumulator, .zeroPage, .zeroPageX, .absolute, .absoluteX]
  | .cpx | .cpy =>
    [.immediate, .zeroPage, .absolute]
  | .bcc | .bcs | .beq | .bne | .bmi | .bpl | .bvc | .bvs =>
    [.relative]
  | .brk | .rts | .rti | .pha | .php | .pla | .plp | .inx
  | .iny | .dex | .dey | .clc | .cld | .cli | .clv | .sec
  | .sed | .sei | .tax | .tay | .txa | .tya | .tsx | .txs
  | .nop =>
    [.implied]
  | .jsr =>
    [.absolute]
  | .jmp =>
    [.absolute, .indirect]
  | .ldx =>
    [.immediate, .zeroPage, .zeroPageY, .absolute, .absoluteY]
  | .ldy =>
    [.immediate, .zeroPage, .zeroPageX, .absolute, .absoluteX]
  | .sta =>
    [.zeroPage, .zeroPageX, .absolute, .absoluteX, .absoluteY, .indexedIndirectX, .indirectIndexedY]
  | .stx =>
    [.zeroPage, .zeroPageY, .absolute]
  | .sty =>
    [.zeroPage, .zeroPageX, .absolute]
  | .inc | .dec =>
    [.zeroPage, .zeroPageX, .absolute, .absoluteX]

/-- Does the pair exist in the opcode table (R108)? -/
def pairWellFormed (m : Mnemonic) (mode : Mode) : Bool := mode ∈ m.modes

/-- The mnemonic of an instruction (R108). -/
def Instr.mnemonic : Instr → Mnemonic
  | .adcImm _ | .adcZp _ | .adcZpX _ | .adcAbs _ | .adcAbsX _
  | .adcAbsY _ | .adcIndX _ | .adcIndY _ => .adc
  | .sbcImm _ | .sbcZp _ | .sbcZpX _ | .sbcAbs _ | .sbcAbsX _
  | .sbcAbsY _ | .sbcIndX _ | .sbcIndY _ => .sbc
  | .andImm _ | .andZp _ | .andZpX _ | .andAbs _ | .andAbsX _
  | .andAbsY _ | .andIndX _ | .andIndY _ => .and
  | .oraImm _ | .oraZp _ | .oraZpX _ | .oraAbs _ | .oraAbsX _
  | .oraAbsY _ | .oraIndX _ | .oraIndY _ => .ora
  | .eorImm _ | .eorZp _ | .eorZpX _ | .eorAbs _ | .eorAbsX _
  | .eorAbsY _ | .eorIndX _ | .eorIndY _ => .eor
  | .bitZp _ | .bitAbs _ => .bit
  | .aslAcc | .aslZp _ | .aslZpX _ | .aslAbs _ | .aslAbsX _ => .asl
  | .lsrAcc | .lsrZp _ | .lsrZpX _ | .lsrAbs _ | .lsrAbsX _ => .lsr
  | .rolAcc | .rolZp _ | .rolZpX _ | .rolAbs _ | .rolAbsX _ => .rol
  | .rorAcc | .rorZp _ | .rorZpX _ | .rorAbs _ | .rorAbsX _ => .ror
  | .cmpImm _ | .cmpZp _ | .cmpZpX _ | .cmpAbs _ | .cmpAbsX _
  | .cmpAbsY _ | .cmpIndX _ | .cmpIndY _ => .cmp
  | .cpxImm _ | .cpxZp _ | .cpxAbs _ => .cpx
  | .cpyImm _ | .cpyZp _ | .cpyAbs _ => .cpy
  | .bcc _ => .bcc
  | .bcs _ => .bcs
  | .beq _ => .beq
  | .bne _ => .bne
  | .bmi _ => .bmi
  | .bpl _ => .bpl
  | .bvc _ => .bvc
  | .bvs _ => .bvs
  | .brk => .brk
  | .jsr _ => .jsr
  | .rts => .rts
  | .rti => .rti
  | .jmpAbs _ | .jmpInd _ => .jmp
  | .pha => .pha
  | .php => .php
  | .pla => .pla
  | .plp => .plp
  | .inx => .inx
  | .iny => .iny
  | .dex => .dex
  | .dey => .dey
  | .clc => .clc
  | .cld => .cld
  | .cli => .cli
  | .clv => .clv
  | .sec => .sec
  | .sed => .sed
  | .sei => .sei
  | .tax => .tax
  | .tay => .tay
  | .txa => .txa
  | .tya => .tya
  | .tsx => .tsx
  | .txs => .txs
  | .nop => .nop
  | .ldaImm _ | .ldaZp _ | .ldaZpX _ | .ldaAbs _ | .ldaAbsX _
  | .ldaAbsY _ | .ldaIndX _ | .ldaIndY _ => .lda
  | .ldxImm _ | .ldxZp _ | .ldxZpY _ | .ldxAbs _ | .ldxAbsY _ => .ldx
  | .ldyImm _ | .ldyZp _ | .ldyZpX _ | .ldyAbs _ | .ldyAbsX _ => .ldy
  | .staZp _ | .staZpX _ | .staAbs _ | .staAbsX _ | .staAbsY _
  | .staIndX _ | .staIndY _ => .sta
  | .stxZp _ | .stxZpY _ | .stxAbs _ => .stx
  | .styZp _ | .styZpX _ | .styAbs _ => .sty
  | .incZp _ | .incZpX _ | .incAbs _ | .incAbsX _ => .inc
  | .decZp _ | .decZpX _ | .decAbs _ | .decAbsX _ => .dec

/-- The operand of an instruction: its mode with its operand field (R105, R108). -/
def Instr.operand : Instr → Operand
  | .adcImm imm => .immediate imm
  | .adcZp zp => .memory (.zeroPage zp)
  | .adcZpX zp => .memory (.zeroPageX zp)
  | .adcAbs addr => .memory (.absolute addr)
  | .adcAbsX addr => .memory (.absoluteX addr)
  | .adcAbsY addr => .memory (.absoluteY addr)
  | .adcIndX zp => .memory (.indexedIndirectX zp)
  | .adcIndY zp => .memory (.indirectIndexedY zp)
  | .sbcImm imm => .immediate imm
  | .sbcZp zp => .memory (.zeroPage zp)
  | .sbcZpX zp => .memory (.zeroPageX zp)
  | .sbcAbs addr => .memory (.absolute addr)
  | .sbcAbsX addr => .memory (.absoluteX addr)
  | .sbcAbsY addr => .memory (.absoluteY addr)
  | .sbcIndX zp => .memory (.indexedIndirectX zp)
  | .sbcIndY zp => .memory (.indirectIndexedY zp)
  | .andImm imm => .immediate imm
  | .andZp zp => .memory (.zeroPage zp)
  | .andZpX zp => .memory (.zeroPageX zp)
  | .andAbs addr => .memory (.absolute addr)
  | .andAbsX addr => .memory (.absoluteX addr)
  | .andAbsY addr => .memory (.absoluteY addr)
  | .andIndX zp => .memory (.indexedIndirectX zp)
  | .andIndY zp => .memory (.indirectIndexedY zp)
  | .oraImm imm => .immediate imm
  | .oraZp zp => .memory (.zeroPage zp)
  | .oraZpX zp => .memory (.zeroPageX zp)
  | .oraAbs addr => .memory (.absolute addr)
  | .oraAbsX addr => .memory (.absoluteX addr)
  | .oraAbsY addr => .memory (.absoluteY addr)
  | .oraIndX zp => .memory (.indexedIndirectX zp)
  | .oraIndY zp => .memory (.indirectIndexedY zp)
  | .eorImm imm => .immediate imm
  | .eorZp zp => .memory (.zeroPage zp)
  | .eorZpX zp => .memory (.zeroPageX zp)
  | .eorAbs addr => .memory (.absolute addr)
  | .eorAbsX addr => .memory (.absoluteX addr)
  | .eorAbsY addr => .memory (.absoluteY addr)
  | .eorIndX zp => .memory (.indexedIndirectX zp)
  | .eorIndY zp => .memory (.indirectIndexedY zp)
  | .bitZp zp => .memory (.zeroPage zp)
  | .bitAbs addr => .memory (.absolute addr)
  | .aslAcc => .accumulator
  | .aslZp zp => .memory (.zeroPage zp)
  | .aslZpX zp => .memory (.zeroPageX zp)
  | .aslAbs addr => .memory (.absolute addr)
  | .aslAbsX addr => .memory (.absoluteX addr)
  | .lsrAcc => .accumulator
  | .lsrZp zp => .memory (.zeroPage zp)
  | .lsrZpX zp => .memory (.zeroPageX zp)
  | .lsrAbs addr => .memory (.absolute addr)
  | .lsrAbsX addr => .memory (.absoluteX addr)
  | .rolAcc => .accumulator
  | .rolZp zp => .memory (.zeroPage zp)
  | .rolZpX zp => .memory (.zeroPageX zp)
  | .rolAbs addr => .memory (.absolute addr)
  | .rolAbsX addr => .memory (.absoluteX addr)
  | .rorAcc => .accumulator
  | .rorZp zp => .memory (.zeroPage zp)
  | .rorZpX zp => .memory (.zeroPageX zp)
  | .rorAbs addr => .memory (.absolute addr)
  | .rorAbsX addr => .memory (.absoluteX addr)
  | .cmpImm imm => .immediate imm
  | .cmpZp zp => .memory (.zeroPage zp)
  | .cmpZpX zp => .memory (.zeroPageX zp)
  | .cmpAbs addr => .memory (.absolute addr)
  | .cmpAbsX addr => .memory (.absoluteX addr)
  | .cmpAbsY addr => .memory (.absoluteY addr)
  | .cmpIndX zp => .memory (.indexedIndirectX zp)
  | .cmpIndY zp => .memory (.indirectIndexedY zp)
  | .cpxImm imm => .immediate imm
  | .cpxZp zp => .memory (.zeroPage zp)
  | .cpxAbs addr => .memory (.absolute addr)
  | .cpyImm imm => .immediate imm
  | .cpyZp zp => .memory (.zeroPage zp)
  | .cpyAbs addr => .memory (.absolute addr)
  | .bcc rel => .relative rel
  | .bcs rel => .relative rel
  | .beq rel => .relative rel
  | .bne rel => .relative rel
  | .bmi rel => .relative rel
  | .bpl rel => .relative rel
  | .bvc rel => .relative rel
  | .bvs rel => .relative rel
  | .brk => .implied
  | .jsr addr => .memory (.absolute addr)
  | .rts => .implied
  | .rti => .implied
  | .jmpAbs addr => .memory (.absolute addr)
  | .jmpInd addr => .indirect addr
  | .pha => .implied
  | .php => .implied
  | .pla => .implied
  | .plp => .implied
  | .inx => .implied
  | .iny => .implied
  | .dex => .implied
  | .dey => .implied
  | .clc => .implied
  | .cld => .implied
  | .cli => .implied
  | .clv => .implied
  | .sec => .implied
  | .sed => .implied
  | .sei => .implied
  | .tax => .implied
  | .tay => .implied
  | .txa => .implied
  | .tya => .implied
  | .tsx => .implied
  | .txs => .implied
  | .nop => .implied
  | .ldaImm imm => .immediate imm
  | .ldaZp zp => .memory (.zeroPage zp)
  | .ldaZpX zp => .memory (.zeroPageX zp)
  | .ldaAbs addr => .memory (.absolute addr)
  | .ldaAbsX addr => .memory (.absoluteX addr)
  | .ldaAbsY addr => .memory (.absoluteY addr)
  | .ldaIndX zp => .memory (.indexedIndirectX zp)
  | .ldaIndY zp => .memory (.indirectIndexedY zp)
  | .ldxImm imm => .immediate imm
  | .ldxZp zp => .memory (.zeroPage zp)
  | .ldxZpY zp => .memory (.zeroPageY zp)
  | .ldxAbs addr => .memory (.absolute addr)
  | .ldxAbsY addr => .memory (.absoluteY addr)
  | .ldyImm imm => .immediate imm
  | .ldyZp zp => .memory (.zeroPage zp)
  | .ldyZpX zp => .memory (.zeroPageX zp)
  | .ldyAbs addr => .memory (.absolute addr)
  | .ldyAbsX addr => .memory (.absoluteX addr)
  | .staZp zp => .memory (.zeroPage zp)
  | .staZpX zp => .memory (.zeroPageX zp)
  | .staAbs addr => .memory (.absolute addr)
  | .staAbsX addr => .memory (.absoluteX addr)
  | .staAbsY addr => .memory (.absoluteY addr)
  | .staIndX zp => .memory (.indexedIndirectX zp)
  | .staIndY zp => .memory (.indirectIndexedY zp)
  | .stxZp zp => .memory (.zeroPage zp)
  | .stxZpY zp => .memory (.zeroPageY zp)
  | .stxAbs addr => .memory (.absolute addr)
  | .styZp zp => .memory (.zeroPage zp)
  | .styZpX zp => .memory (.zeroPageX zp)
  | .styAbs addr => .memory (.absolute addr)
  | .incZp zp => .memory (.zeroPage zp)
  | .incZpX zp => .memory (.zeroPageX zp)
  | .incAbs addr => .memory (.absolute addr)
  | .incAbsX addr => .memory (.absoluteX addr)
  | .decZp zp => .memory (.zeroPage zp)
  | .decZpX zp => .memory (.zeroPageX zp)
  | .decAbs addr => .memory (.absolute addr)
  | .decAbsX addr => .memory (.absoluteX addr)

/-- The addressing mode of an instruction (R108). -/
def Instr.mode (i : Instr) : Mode := i.operand.mode

/-- An instruction is well formed when its pair stands in the opcode table (R108). -/
def Instr.wellFormed (i : Instr) : Bool := pairWellFormed i.mnemonic i.mode

end Sys2Proof
end

