-- ==== Sys2Proof/Machine/Operands.lean ====
section
/-!
DEFINITION. The addressing-mode resolver (spec/40_fetch_decode_execute.md rules R136 to R151), every operand form, and the
access classes through which the handlers of files 41 to 48 run (R134, R152).
-/

namespace Sys2Proof.Machine

/-- `len(mode)` (R101). -/
def modeLength : Mode → Nat
  | .implied | .accumulator => 1
  | .immediate | .zeroPage | .zeroPageX | .zeroPageY | .indexedIndirectX | .indirectIndexedY | .relative => 2
  | .absolute | .absoluteX | .absoluteY | .indirect => 3

/-- The access classes (R136). -/
inductive AccessClass where
  | read | write | readModifyWrite | accumulator | jump | branch | implied
  deriving DecidableEq, Repr

/-- The access class of an instruction (R136). -/
def accessClass (i : Instr) : AccessClass :=
  match i.mnemonic with
  | .adc | .sbc | .and | .ora | .eor | .bit | .cmp | .cpx | .cpy | .lda | .ldx | .ldy => .read
  | .sta | .stx | .sty => .write
  | .asl | .lsr | .rol | .ror => if i.mode = .accumulator then .accumulator else .readModifyWrite
  | .inc | .dec => .readModifyWrite
  | .jmp | .jsr => .jump
  | .bcc | .bcs | .beq | .bne | .bmi | .bpl | .bvc | .bvs => .branch
  | .brk | .rts | .rti | .pha | .php | .pla | .plp
  | .inx | .iny | .dex | .dey | .clc | .cld | .cli | .clv | .sec | .sed | .sei
  | .tax | .tay | .txa | .tya | .tsx | .txs | .nop => .implied

/-! Effective addresses. -/

/-- A zero-page address after its index, modulo 256 (R143, R144, R149). -/
def indexZeroPage (zp index : Byte) : Addr := zext16 (zp + index)

/-- The word at a zero-page pointer and at the next zero-page byte, modulo 256 (R149, R150). -/
def State.zeroPagePointer (s : State) (zp : Byte) : Addr × State := s.readWord (zext16 zp) (zext16 (zp + 1))

/-- The effective address of a memory operand, and the state after its pointer reads (R142 to R147, R149, R150). -/
def State.effectiveAddress (s : State) (o : MemOperand) : Addr × State :=
  match o with
  | .zeroPage zp => (zext16 zp, s)
  | .zeroPageX zp => (indexZeroPage zp s.x, s)
  | .zeroPageY zp => (indexZeroPage zp s.y, s)
  | .absolute addr => (addr, s)
  | .absoluteX addr => (addr + zext16 s.x, s)
  | .absoluteY addr => (addr + zext16 s.y, s)
  | .indexedIndirectX zp => s.zeroPagePointer (zp + s.x)
  | .indirectIndexedY zp =>
    let base := s.zeroPagePointer zp
    (base.1 + zext16 s.y, base.2)

/-- The target of JMP indirect, with the page-wrap bug (R148). -/
def State.indirectTarget (s : State) (ptr : Addr) : Addr × State := s.readWord ptr (nextInPage ptr)

/-- The target of a branch, from the address after its 2 bytes (R151). -/
def relativeTarget (pc : Addr) (rel : Byte) : Addr := pc + 2 + sext16 rel

/-! The resolver's contract (R137, R138). -/

/-- What the resolver returns: the effective address and the operand value, each where the mode and the class have one. -/
structure Resolved where
  ea : Option Addr
  value : Option Byte
  deriving DecidableEq, Repr

/-- Does the resolver fetch a value at the effective address for this class (R138)? -/
def AccessClass.reads : AccessClass → Bool
  | .read | .readModifyWrite => true
  | .write | .accumulator | .jump | .branch | .implied => false

/-- `resolve(mode, state, bus)` (R137, R138), and the state after its bus reads. For the accumulator class R137 says that `M` is
absent and R138 that `M <- A`; the value here is R138's, A (DESIGN CHOICE, safe, log entry 14). -/
def State.resolve (s : State) (c : AccessClass) (o : Operand) : Resolved × State :=
  match o with
  | .implied => ({ ea := none, value := none }, s)
  | .accumulator => ({ ea := none, value := if c = .accumulator then some s.a else none }, s)
  | .immediate imm => ({ ea := none, value := if c = .read then some imm else none }, s)
  | .memory m =>
    let ea := s.effectiveAddress m
    if c.reads then
      let v := ea.2.memRead ea.1
      ({ ea := some ea.1, value := some v.1 }, v.2)
    else ({ ea := some ea.1, value := none }, ea.2)
  | .indirect ptr =>
    let t := s.indirectTarget ptr
    ({ ea := some t.1, value := none }, t.2)
  | .relative rel => ({ ea := some (relativeTarget s.pc rel), value := none }, s)

/-- The resolver on an instruction: its own class and operand. -/
def State.resolveInstr (s : State) (i : Instr) : Resolved × State := s.resolve (accessClass i) i.operand

/-! The operand forms by class. -/

/-- The operand of a read-class instruction: a byte of the instruction or a byte of memory (R138). -/
inductive Source where
  | immediate (imm : Byte)
  | memory (o : MemOperand)
  deriving DecidableEq, Repr

/-- The bytes of an instruction with this operand (R101). -/
def Source.length : Source → Nat
  | .immediate _ => modeLength .immediate
  | .memory o => modeLength o.mode

/-- The operand value `M`, and the state after its reads (R138). -/
def State.sourceValue (s : State) (src : Source) : Byte × State :=
  match src with
  | .immediate imm => (imm, s)
  | .memory o =>
    let ea := s.effectiveAddress o
    ea.2.memRead ea.1

/-- A read-class instruction: its handler gets `M` and gives the new registers; no override (R134, R136). -/
def readClass (src : Source) (handler : Byte → State → State) (s : State) : Out :=
  let m := s.sourceValue src
  .next ((handler m.1 m.2).commit src.length none)

/-- A write-class instruction: one write of `v` at the effective address and no read of it (R79, R284). -/
def writeClass (o : MemOperand) (v : Byte) (s : State) : Out :=
  let ea := s.effectiveAddress o
  .next ((ea.2.memWrite ea.1 v).commit (modeLength o.mode) none)

/-- The operand of a shift or rotate: the accumulator or a byte of memory (R190). -/
inductive Target where
  | accumulator
  | memory (o : MemOperand)
  deriving DecidableEq, Repr

/-- An accumulator-class or read-modify-write instruction: `f` takes `M` and P to the result and the new P; memory is read
once and then written once at the same address (R136, R190, R288). -/
def modifyClass (t : Target) (f : Byte → Byte → Byte × Byte) (s : State) : Out :=
  match t with
  | .accumulator =>
    let r := f s.a s.status
    .next (((s.setA r.1).setP r.2).commit (modeLength .accumulator) none)
  | .memory o =>
    let ea := s.effectiveAddress o
    let m := ea.2.memRead ea.1
    let r := f m.1 s.status
    .next (((m.2.memWrite ea.1 r.1).setP r.2).commit (modeLength o.mode) none)

/-- `Branch(cond)`: the target as an override when the condition holds; nothing else (R210). -/
def branchClass (rel : Byte) (cond : Bool) (s : State) : Out :=
  .next (s.commit (modeLength .relative) (if cond then some (relativeTarget s.pc rel) else none))

/-- An implied-class instruction whose handler gives new registers and no override (R136). -/
def impliedClass (handler : State → State) (s : State) : Out :=
  .next ((handler s).commit (modeLength .implied) none)

end Sys2Proof.Machine
end

