-- ==== Sys2Proof/Machine/Arithmetic.lean ====
section
/-!
DEFINITION. The handlers of spec/41_arithmetic.md: ADC and SBC (rules R170 to R173), and the meaning of each
of their rows of the opcode table.
-/

namespace Sys2Proof.Machine

/-- `A <- r` and C, V, Z, N from the binary addition of A, `b` and the carry (R170, R172). -/
def addToA (b : Byte) (s : State) : State :=
  let t := addBytes s.a b (s.flag .carry)
  (s.setA t.r).setP (setNZ (withOverflow (withCarry s.status t.cout) s.a b t.r) t.r)

/-- ADC (R172): the addend is `M`; P.D has no effect (R171). -/
def adc (m : Byte) (s : State) : State := addToA m s

/-- SBC (R173): the addend is `M ^ 0xFF`; P.D has no effect (R171). -/
def sbc (m : Byte) (s : State) : State := addToA (m ^^^ 0xFF#8) s

/-- ADC #$nn (R172, R141). -/
def execAdcImm (imm : Byte) (s : State) : Out := readClass (.immediate imm) adc s

/-- ADC $nn (R172, R142). -/
def execAdcZp (zp : Byte) (s : State) : Out := readClass (.memory (.zeroPage zp)) adc s

/-- ADC $nn,X (R172, R143). -/
def execAdcZpX (zp : Byte) (s : State) : Out := readClass (.memory (.zeroPageX zp)) adc s

/-- ADC $nnnn (R172, R145). -/
def execAdcAbs (addr : Addr) (s : State) : Out := readClass (.memory (.absolute addr)) adc s

/-- ADC $nnnn,X (R172, R146). -/
def execAdcAbsX (addr : Addr) (s : State) : Out := readClass (.memory (.absoluteX addr)) adc s

/-- ADC $nnnn,Y (R172, R147). -/
def execAdcAbsY (addr : Addr) (s : State) : Out := readClass (.memory (.absoluteY addr)) adc s

/-- ADC ($nn,X) (R172, R149). -/
def execAdcIndX (zp : Byte) (s : State) : Out := readClass (.memory (.indexedIndirectX zp)) adc s

/-- ADC ($nn),Y (R172, R150). -/
def execAdcIndY (zp : Byte) (s : State) : Out := readClass (.memory (.indirectIndexedY zp)) adc s

/-- SBC #$nn (R173, R141). -/
def execSbcImm (imm : Byte) (s : State) : Out := readClass (.immediate imm) sbc s

/-- SBC $nn (R173, R142). -/
def execSbcZp (zp : Byte) (s : State) : Out := readClass (.memory (.zeroPage zp)) sbc s

/-- SBC $nn,X (R173, R143). -/
def execSbcZpX (zp : Byte) (s : State) : Out := readClass (.memory (.zeroPageX zp)) sbc s

/-- SBC $nnnn (R173, R145). -/
def execSbcAbs (addr : Addr) (s : State) : Out := readClass (.memory (.absolute addr)) sbc s

/-- SBC $nnnn,X (R173, R146). -/
def execSbcAbsX (addr : Addr) (s : State) : Out := readClass (.memory (.absoluteX addr)) sbc s

/-- SBC $nnnn,Y (R173, R147). -/
def execSbcAbsY (addr : Addr) (s : State) : Out := readClass (.memory (.absoluteY addr)) sbc s

/-- SBC ($nn,X) (R173, R149). -/
def execSbcIndX (zp : Byte) (s : State) : Out := readClass (.memory (.indexedIndirectX zp)) sbc s

/-- SBC ($nn),Y (R173, R150). -/
def execSbcIndY (zp : Byte) (s : State) : Out := readClass (.memory (.indirectIndexedY zp)) sbc s

end Sys2Proof.Machine
end

