-- ==== Sys2Proof/Machine/Branch.lean ====
section
/-!
DEFINITION. The handlers of spec/45_branch.md: the conditional branches (rules R210 to R219), and the meaning of each
of their rows of the opcode table.
-/

namespace Sys2Proof.Machine

/-- BCC label (R212, R151). -/
def execBcc (rel : Byte) (s : State) : Out := branchClass rel (!s.flag .carry) s

/-- BCS label (R213, R151). -/
def execBcs (rel : Byte) (s : State) : Out := branchClass rel (s.flag .carry) s

/-- BEQ label (R214, R151). -/
def execBeq (rel : Byte) (s : State) : Out := branchClass rel (s.flag .zero) s

/-- BNE label (R215, R151). -/
def execBne (rel : Byte) (s : State) : Out := branchClass rel (!s.flag .zero) s

/-- BMI label (R216, R151). -/
def execBmi (rel : Byte) (s : State) : Out := branchClass rel (s.flag .negative) s

/-- BPL label (R217, R151). -/
def execBpl (rel : Byte) (s : State) : Out := branchClass rel (!s.flag .negative) s

/-- BVC label (R218, R151). -/
def execBvc (rel : Byte) (s : State) : Out := branchClass rel (!s.flag .overflow) s

/-- BVS label (R219, R151). -/
def execBvs (rel : Byte) (s : State) : Out := branchClass rel (s.flag .overflow) s

end Sys2Proof.Machine
end

