-- ==== Sys2Proof/Machine/Compare.lean ====
section
/-!
DEFINITION. The handlers of spec/44_compare.md: CMP, CPX and CPY (rules R200 to R203), and the meaning of each
of their rows of the opcode table.
-/

namespace Sys2Proof.Machine

/-- CMP (R201): A is compared and not written. -/
def cmp8 (m : Byte) (s : State) : State := s.setP (compareP s.status s.a m)

/-- CPX (R202): X is compared and not written. -/
def cpx8 (m : Byte) (s : State) : State := s.setP (compareP s.status s.x m)

/-- CPY (R203): Y is compared and not written. -/
def cpy8 (m : Byte) (s : State) : State := s.setP (compareP s.status s.y m)

/-- CMP #$nn (R201, R141). -/
def execCmpImm (imm : Byte) (s : State) : Out := readClass (.immediate imm) cmp8 s

/-- CMP $nn (R201, R142). -/
def execCmpZp (zp : Byte) (s : State) : Out := readClass (.memory (.zeroPage zp)) cmp8 s

/-- CMP $nn,X (R201, R143). -/
def execCmpZpX (zp : Byte) (s : State) : Out := readClass (.memory (.zeroPageX zp)) cmp8 s

/-- CMP $nnnn (R201, R145). -/
def execCmpAbs (addr : Addr) (s : State) : Out := readClass (.memory (.absolute addr)) cmp8 s

/-- CMP $nnnn,X (R201, R146). -/
def execCmpAbsX (addr : Addr) (s : State) : Out := readClass (.memory (.absoluteX addr)) cmp8 s

/-- CMP $nnnn,Y (R201, R147). -/
def execCmpAbsY (addr : Addr) (s : State) : Out := readClass (.memory (.absoluteY addr)) cmp8 s

/-- CMP ($nn,X) (R201, R149). -/
def execCmpIndX (zp : Byte) (s : State) : Out := readClass (.memory (.indexedIndirectX zp)) cmp8 s

/-- CMP ($nn),Y (R201, R150). -/
def execCmpIndY (zp : Byte) (s : State) : Out := readClass (.memory (.indirectIndexedY zp)) cmp8 s

/-- CPX #$nn (R202, R141). -/
def execCpxImm (imm : Byte) (s : State) : Out := readClass (.immediate imm) cpx8 s

/-- CPX $nn (R202, R142). -/
def execCpxZp (zp : Byte) (s : State) : Out := readClass (.memory (.zeroPage zp)) cpx8 s

/-- CPX $nnnn (R202, R145). -/
def execCpxAbs (addr : Addr) (s : State) : Out := readClass (.memory (.absolute addr)) cpx8 s

/-- CPY #$nn (R203, R141). -/
def execCpyImm (imm : Byte) (s : State) : Out := readClass (.immediate imm) cpy8 s

/-- CPY $nn (R203, R142). -/
def execCpyZp (zp : Byte) (s : State) : Out := readClass (.memory (.zeroPage zp)) cpy8 s

/-- CPY $nnnn (R203, R145). -/
def execCpyAbs (addr : Addr) (s : State) : Out := readClass (.memory (.absolute addr)) cpy8 s

end Sys2Proof.Machine
end

