-- ==== Sys2Proof/Machine/Logical.lean ====
section
/-!
DEFINITION. The handlers of spec/42_logical.md: AND, ORA, EOR and BIT (rules R180 to R184), and the meaning of each
of their rows of the opcode table.
-/

namespace Sys2Proof.Machine

/-- `A <- r; P <- setNZ(P, r)` (R180): also the effect of LDA, PLA, TXA and TYA. -/
def putA (r : Byte) (s : State) : State := (s.setA r).setP (setNZ s.status r)

/-- AND (R181). -/
def and8 (m : Byte) (s : State) : State := putA (s.a &&& m) s

/-- ORA (R182). -/
def ora8 (m : Byte) (s : State) : State := putA (s.a ||| m) s

/-- EOR (R183). -/
def eor8 (m : Byte) (s : State) : State := putA (s.a ^^^ m) s

/-- BIT (R184): A is not written. -/
def bit8 (m : Byte) (s : State) : State := s.setP (bitP s.status s.a m)

/-- AND #$nn (R181, R141). -/
def execAndImm (imm : Byte) (s : State) : Out := readClass (.immediate imm) and8 s

/-- AND $nn (R181, R142). -/
def execAndZp (zp : Byte) (s : State) : Out := readClass (.memory (.zeroPage zp)) and8 s

/-- AND $nn,X (R181, R143). -/
def execAndZpX (zp : Byte) (s : State) : Out := readClass (.memory (.zeroPageX zp)) and8 s

/-- AND $nnnn (R181, R145). -/
def execAndAbs (addr : Addr) (s : State) : Out := readClass (.memory (.absolute addr)) and8 s

/-- AND $nnnn,X (R181, R146). -/
def execAndAbsX (addr : Addr) (s : State) : Out := readClass (.memory (.absoluteX addr)) and8 s

/-- AND $nnnn,Y (R181, R147). -/
def execAndAbsY (addr : Addr) (s : State) : Out := readClass (.memory (.absoluteY addr)) and8 s

/-- AND ($nn,X) (R181, R149). -/
def execAndIndX (zp : Byte) (s : State) : Out := readClass (.memory (.indexedIndirectX zp)) and8 s

/-- AND ($nn),Y (R181, R150). -/
def execAndIndY (zp : Byte) (s : State) : Out := readClass (.memory (.indirectIndexedY zp)) and8 s

/-- ORA #$nn (R182, R141). -/
def execOraImm (imm : Byte) (s : State) : Out := readClass (.immediate imm) ora8 s

/-- ORA $nn (R182, R142). -/
def execOraZp (zp : Byte) (s : State) : Out := readClass (.memory (.zeroPage zp)) ora8 s

/-- ORA $nn,X (R182, R143). -/
def execOraZpX (zp : Byte) (s : State) : Out := readClass (.memory (.zeroPageX zp)) ora8 s

/-- ORA $nnnn (R182, R145). -/
def execOraAbs (addr : Addr) (s : State) : Out := readClass (.memory (.absolute addr)) ora8 s

/-- ORA $nnnn,X (R182, R146). -/
def execOraAbsX (addr : Addr) (s : State) : Out := readClass (.memory (.absoluteX addr)) ora8 s

/-- ORA $nnnn,Y (R182, R147). -/
def execOraAbsY (addr : Addr) (s : State) : Out := readClass (.memory (.absoluteY addr)) ora8 s

/-- ORA ($nn,X) (R182, R149). -/
def execOraIndX (zp : Byte) (s : State) : Out := readClass (.memory (.indexedIndirectX zp)) ora8 s

/-- ORA ($nn),Y (R182, R150). -/
def execOraIndY (zp : Byte) (s : State) : Out := readClass (.memory (.indirectIndexedY zp)) ora8 s

/-- EOR #$nn (R183, R141). -/
def execEorImm (imm : Byte) (s : State) : Out := readClass (.immediate imm) eor8 s

/-- EOR $nn (R183, R142). -/
def execEorZp (zp : Byte) (s : State) : Out := readClass (.memory (.zeroPage zp)) eor8 s

/-- EOR $nn,X (R183, R143). -/
def execEorZpX (zp : Byte) (s : State) : Out := readClass (.memory (.zeroPageX zp)) eor8 s

/-- EOR $nnnn (R183, R145). -/
def execEorAbs (addr : Addr) (s : State) : Out := readClass (.memory (.absolute addr)) eor8 s

/-- EOR $nnnn,X (R183, R146). -/
def execEorAbsX (addr : Addr) (s : State) : Out := readClass (.memory (.absoluteX addr)) eor8 s

/-- EOR $nnnn,Y (R183, R147). -/
def execEorAbsY (addr : Addr) (s : State) : Out := readClass (.memory (.absoluteY addr)) eor8 s

/-- EOR ($nn,X) (R183, R149). -/
def execEorIndX (zp : Byte) (s : State) : Out := readClass (.memory (.indexedIndirectX zp)) eor8 s

/-- EOR ($nn),Y (R183, R150). -/
def execEorIndY (zp : Byte) (s : State) : Out := readClass (.memory (.indirectIndexedY zp)) eor8 s

/-- BIT $nn (R184, R142). -/
def execBitZp (zp : Byte) (s : State) : Out := readClass (.memory (.zeroPage zp)) bit8 s

/-- BIT $nnnn (R184, R145). -/
def execBitAbs (addr : Addr) (s : State) : Out := readClass (.memory (.absolute addr)) bit8 s

end Sys2Proof.Machine
end

