-- ==== Sys2Proof/Machine/RegisterOps.lean ====
section
/-!
DEFINITION. The handlers of spec/47_register_ops.md: increments, flag operations, transfers and NOP (rules R250 to R271),
and the meaning of each of their rows of the opcode table.
-/

namespace Sys2Proof.Machine

/-- `X <- v; P <- setNZ(P, v)`: INX, DEX, TAX, TSX, and LDX (R251, R253, R264, R268, R282). -/
def putX (v : Byte) (s : State) : State := (s.setX v).setP (setNZ s.status v)

/-- `Y <- v; P <- setNZ(P, v)`: INY, DEY, TAY, and LDY (R252, R254, R265, R283). -/
def putY (v : Byte) (s : State) : State := (s.setY v).setP (setNZ s.status v)

/-- `P <- setFlag(P, f, b)`: one flag and nothing else (R255). -/
def putFlag (f : Flag) (b : Bool) (s : State) : State := s.setP (setFlag s.status f b)

/-- INX (R251, R139). -/
def execInx (s : State) : Out := impliedClass (fun t => putX (t.x + 1) t) s

/-- INY (R252, R139). -/
def execIny (s : State) : Out := impliedClass (fun t => putY (t.y + 1) t) s

/-- DEX (R253, R139). -/
def execDex (s : State) : Out := impliedClass (fun t => putX (t.x - 1) t) s

/-- DEY (R254, R139). -/
def execDey (s : State) : Out := impliedClass (fun t => putY (t.y - 1) t) s

/-- CLC (R256, R139). -/
def execClc (s : State) : Out := impliedClass (fun t => t.setP (withCarry t.status false)) s

/-- CLD (R257, R139). -/
def execCld (s : State) : Out := impliedClass (fun t => putFlag .decimal false t) s

/-- CLI (R258, R139). -/
def execCli (s : State) : Out := impliedClass (fun t => t.setP (withInterruptDisable t.status false)) s

/-- CLV (R259, R139). -/
def execClv (s : State) : Out := impliedClass (fun t => putFlag .overflow false t) s

/-- SEC (R260, R139). -/
def execSec (s : State) : Out := impliedClass (fun t => t.setP (withCarry t.status true)) s

/-- SED (R261, R139). -/
def execSed (s : State) : Out := impliedClass (fun t => putFlag .decimal true t) s

/-- SEI (R262, R139). -/
def execSei (s : State) : Out := impliedClass (fun t => t.setP (withInterruptDisable t.status true)) s

/-- TAX (R264, R139). -/
def execTax (s : State) : Out := impliedClass (fun t => putX t.a t) s

/-- TAY (R265, R139). -/
def execTay (s : State) : Out := impliedClass (fun t => putY t.a t) s

/-- TXA (R266, R139). -/
def execTxa (s : State) : Out := impliedClass (fun t => putA t.x t) s

/-- TYA (R267, R139). -/
def execTya (s : State) : Out := impliedClass (fun t => putA t.y t) s

/-- TSX (R268, R139). -/
def execTsx (s : State) : Out := impliedClass (fun t => putX t.sp t) s

/-- TXS (R269, R139). -/
def execTxs (s : State) : Out := impliedClass (fun t => t.setSP t.x) s

/-- NOP (R271, R139). -/
def execNop (s : State) : Out := impliedClass (fun t => t) s

end Sys2Proof.Machine
end

