-- ==== Sys2Proof/Machine/LoadStore.lean ====
section
/-!
DEFINITION. The handlers of spec/48_load_store_memory.md: loads, stores, INC and DEC (rules R280 to R290),
and the meaning of each of their rows of the opcode table.
-/

namespace Sys2Proof.Machine

/-- LDA (R281). -/
def lda (m : Byte) (s : State) : State := putA m s

/-- LDX (R282). -/
def ldx (m : Byte) (s : State) : State := putX m s

/-- LDY (R283). -/
def ldy (m : Byte) (s : State) : State := putY m s

/-- LDA #$nn (R281, R141). -/
def execLdaImm (imm : Byte) (s : State) : Out := readClass (.immediate imm) lda s

/-- LDA $nn (R281, R142). -/
def execLdaZp (zp : Byte) (s : State) : Out := readClass (.memory (.zeroPage zp)) lda s

/-- LDA $nn,X (R281, R143). -/
def execLdaZpX (zp : Byte) (s : State) : Out := readClass (.memory (.zeroPageX zp)) lda s

/-- LDA $nnnn (R281, R145). -/
def execLdaAbs (addr : Addr) (s : State) : Out := readClass (.memory (.absolute addr)) lda s

/-- LDA $nnnn,X (R281, R146). -/
def execLdaAbsX (addr : Addr) (s : State) : Out := readClass (.memory (.absoluteX addr)) lda s

/-- LDA $nnnn,Y (R281, R147). -/
def execLdaAbsY (addr : Addr) (s : State) : Out := readClass (.memory (.absoluteY addr)) lda s

/-- LDA ($nn,X) (R281, R149). -/
def execLdaIndX (zp : Byte) (s : State) : Out := readClass (.memory (.indexedIndirectX zp)) lda s

/-- LDA ($nn),Y (R281, R150). -/
def execLdaIndY (zp : Byte) (s : State) : Out := readClass (.memory (.indirectIndexedY zp)) lda s

/-- LDX #$nn (R282, R141). -/
def execLdxImm (imm : Byte) (s : State) : Out := readClass (.immediate imm) ldx s

/-- LDX $nn (R282, R142). -/
def execLdxZp (zp : Byte) (s : State) : Out := readClass (.memory (.zeroPage zp)) ldx s

/-- LDX $nn,Y (R282, R144). -/
def execLdxZpY (zp : Byte) (s : State) : Out := readClass (.memory (.zeroPageY zp)) ldx s

/-- LDX $nnnn (R282, R145). -/
def execLdxAbs (addr : Addr) (s : State) : Out := readClass (.memory (.absolute addr)) ldx s

/-- LDX $nnnn,Y (R282, R147). -/
def execLdxAbsY (addr : Addr) (s : State) : Out := readClass (.memory (.absoluteY addr)) ldx s

/-- LDY #$nn (R283, R141). -/
def execLdyImm (imm : Byte) (s : State) : Out := readClass (.immediate imm) ldy s

/-- LDY $nn (R283, R142). -/
def execLdyZp (zp : Byte) (s : State) : Out := readClass (.memory (.zeroPage zp)) ldy s

/-- LDY $nn,X (R283, R143). -/
def execLdyZpX (zp : Byte) (s : State) : Out := readClass (.memory (.zeroPageX zp)) ldy s

/-- LDY $nnnn (R283, R145). -/
def execLdyAbs (addr : Addr) (s : State) : Out := readClass (.memory (.absolute addr)) ldy s

/-- LDY $nnnn,X (R283, R146). -/
def execLdyAbsX (addr : Addr) (s : State) : Out := readClass (.memory (.absoluteX addr)) ldy s

/-- STA $nn (R285, R142). -/
def execStaZp (zp : Byte) (s : State) : Out := writeClass (.zeroPage zp) s.a s

/-- STA $nn,X (R285, R143). -/
def execStaZpX (zp : Byte) (s : State) : Out := writeClass (.zeroPageX zp) s.a s

/-- STA $nnnn (R285, R145). -/
def execStaAbs (addr : Addr) (s : State) : Out := writeClass (.absolute addr) s.a s

/-- STA $nnnn,X (R285, R146). -/
def execStaAbsX (addr : Addr) (s : State) : Out := writeClass (.absoluteX addr) s.a s

/-- STA $nnnn,Y (R285, R147). -/
def execStaAbsY (addr : Addr) (s : State) : Out := writeClass (.absoluteY addr) s.a s

/-- STA ($nn,X) (R285, R149). -/
def execStaIndX (zp : Byte) (s : State) : Out := writeClass (.indexedIndirectX zp) s.a s

/-- STA ($nn),Y (R285, R150). -/
def execStaIndY (zp : Byte) (s : State) : Out := writeClass (.indirectIndexedY zp) s.a s

/-- STX $nn (R286, R142). -/
def execStxZp (zp : Byte) (s : State) : Out := writeClass (.zeroPage zp) s.x s

/-- STX $nn,Y (R286, R144). -/
def execStxZpY (zp : Byte) (s : State) : Out := writeClass (.zeroPageY zp) s.x s

/-- STX $nnnn (R286, R145). -/
def execStxAbs (addr : Addr) (s : State) : Out := writeClass (.absolute addr) s.x s

/-- STY $nn (R287, R142). -/
def execStyZp (zp : Byte) (s : State) : Out := writeClass (.zeroPage zp) s.y s

/-- STY $nn,X (R287, R143). -/
def execStyZpX (zp : Byte) (s : State) : Out := writeClass (.zeroPageX zp) s.y s

/-- STY $nnnn (R287, R145). -/
def execStyAbs (addr : Addr) (s : State) : Out := writeClass (.absolute addr) s.y s

/-- INC $nn (R289, R142). -/
def execIncZp (zp : Byte) (s : State) : Out := modifyClass (.memory (.zeroPage zp)) incByte s

/-- INC $nn,X (R289, R143). -/
def execIncZpX (zp : Byte) (s : State) : Out := modifyClass (.memory (.zeroPageX zp)) incByte s

/-- INC $nnnn (R289, R145). -/
def execIncAbs (addr : Addr) (s : State) : Out := modifyClass (.memory (.absolute addr)) incByte s

/-- INC $nnnn,X (R289, R146). -/
def execIncAbsX (addr : Addr) (s : State) : Out := modifyClass (.memory (.absoluteX addr)) incByte s

/-- DEC $nn (R290, R142). -/
def execDecZp (zp : Byte) (s : State) : Out := modifyClass (.memory (.zeroPage zp)) decByte s

/-- DEC $nn,X (R290, R143). -/
def execDecZpX (zp : Byte) (s : State) : Out := modifyClass (.memory (.zeroPageX zp)) decByte s

/-- DEC $nnnn (R290, R145). -/
def execDecAbs (addr : Addr) (s : State) : Out := modifyClass (.memory (.absolute addr)) decByte s

/-- DEC $nnnn,X (R290, R146). -/
def execDecAbsX (addr : Addr) (s : State) : Out := modifyClass (.memory (.absoluteX addr)) decByte s

end Sys2Proof.Machine
end

