-- ==== Sys2Proof/Machine/Shift.lean ====
section
/-!
DEFINITION. The handlers of spec/43_shift_rotate.md: ASL, LSR, ROL and ROR (rules R190 to R194), and the meaning of each of
their rows of the opcode table. The computations are aslByte, lsrByte, rolByte and rorByte of Machine/Flags.lean.
-/

namespace Sys2Proof.Machine

/-- ASL A (R191, R140). -/
def execAslAcc (s : State) : Out := modifyClass .accumulator aslByte s

/-- ASL $nn (R191, R142). -/
def execAslZp (zp : Byte) (s : State) : Out := modifyClass (.memory (.zeroPage zp)) aslByte s

/-- ASL $nn,X (R191, R143). -/
def execAslZpX (zp : Byte) (s : State) : Out := modifyClass (.memory (.zeroPageX zp)) aslByte s

/-- ASL $nnnn (R191, R145). -/
def execAslAbs (addr : Addr) (s : State) : Out := modifyClass (.memory (.absolute addr)) aslByte s

/-- ASL $nnnn,X (R191, R146). -/
def execAslAbsX (addr : Addr) (s : State) : Out := modifyClass (.memory (.absoluteX addr)) aslByte s

/-- LSR A (R192, R140). -/
def execLsrAcc (s : State) : Out := modifyClass .accumulator lsrByte s

/-- LSR $nn (R192, R142). -/
def execLsrZp (zp : Byte) (s : State) : Out := modifyClass (.memory (.zeroPage zp)) lsrByte s

/-- LSR $nn,X (R192, R143). -/
def execLsrZpX (zp : Byte) (s : State) : Out := modifyClass (.memory (.zeroPageX zp)) lsrByte s

/-- LSR $nnnn (R192, R145). -/
def execLsrAbs (addr : Addr) (s : State) : Out := modifyClass (.memory (.absolute addr)) lsrByte s

/-- LSR $nnnn,X (R192, R146). -/
def execLsrAbsX (addr : Addr) (s : State) : Out := modifyClass (.memory (.absoluteX addr)) lsrByte s

/-- ROL A (R193, R140). -/
def execRolAcc (s : State) : Out := modifyClass .accumulator rolByte s

/-- ROL $nn (R193, R142). -/
def execRolZp (zp : Byte) (s : State) : Out := modifyClass (.memory (.zeroPage zp)) rolByte s

/-- ROL $nn,X (R193, R143). -/
def execRolZpX (zp : Byte) (s : State) : Out := modifyClass (.memory (.zeroPageX zp)) rolByte s

/-- ROL $nnnn (R193, R145). -/
def execRolAbs (addr : Addr) (s : State) : Out := modifyClass (.memory (.absolute addr)) rolByte s

/-- ROL $nnnn,X (R193, R146). -/
def execRolAbsX (addr : Addr) (s : State) : Out := modifyClass (.memory (.absoluteX addr)) rolByte s

/-- ROR A (R194, R140). -/
def execRorAcc (s : State) : Out := modifyClass .accumulator rorByte s

/-- ROR $nn (R194, R142). -/
def execRorZp (zp : Byte) (s : State) : Out := modifyClass (.memory (.zeroPage zp)) rorByte s

/-- ROR $nn,X (R194, R143). -/
def execRorZpX (zp : Byte) (s : State) : Out := modifyClass (.memory (.zeroPageX zp)) rorByte s

/-- ROR $nnnn (R194, R145). -/
def execRorAbs (addr : Addr) (s : State) : Out := modifyClass (.memory (.absolute addr)) rorByte s

/-- ROR $nnnn,X (R194, R146). -/
def execRorAbsX (addr : Addr) (s : State) : Out := modifyClass (.memory (.absoluteX addr)) rorByte s

end Sys2Proof.Machine
end

