-- ==== Sys2Proof/Machine/Stack.lean ====
section
/-!
DEFINITION. The handlers of spec/46_stack_control.md: BRK, JSR, RTS, RTI, JMP, PHA, PHP, PLA and PLP (rules R230 to R239),
and the meaning of each of their rows of the opcode table.
-/

namespace Sys2Proof.Machine

/-- BRK (R231, R302): the trap entry with return address `PC + 2`; the byte after the opcode is not read. -/
def execBrk (s : State) : Out :=
  let t := s.enter irqVector (s.pc + 2) true
  .next (t.commit (modeLength .implied) (some t.pc))

/-- JSR (R232): pushes `PC + 2`, the address of its own last byte, and jumps. -/
def execJsr (addr : Addr) (s : State) : Out :=
  .next ((s.pushWord (s.pc + 2)).commit (modeLength .absolute) (some addr))

/-- RTS (R233): PC is the pulled word plus 1. -/
def execRts (s : State) : Out :=
  let t := s.pullWord
  .next (t.2.commit (modeLength .implied) (some (t.1 + 1)))

/-- RTI (R234): the return from an exception. -/
def execRti (s : State) : Out :=
  let t := s.returnFromInterrupt
  .next (t.commit (modeLength .implied) (some t.pc))

/-- JMP Absolute (R235): no data read at the target (R79). -/
def execJmpAbs (addr : Addr) (s : State) : Out :=
  .next (s.commit (modeLength .absolute) (some addr))

/-- JMP Indirect (R235), with the page-wrap bug of R148. -/
def execJmpInd (addr : Addr) (s : State) : Out :=
  let t := s.indirectTarget addr
  .next (t.2.commit (modeLength .indirect) (some t.1))

/-- PHA (R236, R139). -/
def execPha (s : State) : Out := impliedClass (fun t => t.push t.a) s

/-- PHP (R237, R139). -/
def execPhp (s : State) : Out := impliedClass (fun t => t.push (pushedP t.status true)) s

/-- PLA (R238). -/
def execPla (s : State) : Out :=
  let v := s.pull
  .next ((putA v.1 v.2).commit (modeLength .implied) none)

/-- PLP (R239): the pulled byte goes through the filter of R27. -/
def execPlp (s : State) : Out :=
  let v := s.pull
  .next ((v.2.setP v.1).commit (modeLength .implied) none)

end Sys2Proof.Machine
end

