-- ==== Sys2Proof/Decode.lean ====
section
/-!
DEFINITION. Decoding and encoding (spec/30_encoding.md). The opcode byte alone selects the (mnemonic, mode) pair (R100,
R111), through the map of R107, which stands below row by row as the spec prints it; an unmapped byte is refused by name
(R109), as is an instruction whose operand bytes are not all there.
-/

namespace Sys2Proof

/-- What an opcode byte selects: an instruction of format F1, F2 or F3 with its operand field still to come (R102 to
R104). -/
inductive Form where
  | one (i : Instr)
  | two (build : Byte → Instr)
  | three (build : Addr → Instr)

/-- The bytes of an instruction of this form (R101, R111). -/
def Form.length : Form → Nat
  | .one _ => 1
  | .two _ => 2
  | .three _ => 3

/-- The instruction from its operand bytes `b1`, `b2`; a form takes the bytes it has (R103, R104: `addr16 = byte2 ++ byte1`). -/
def Form.instr (f : Form) (b1 b2 : Byte) : Instr :=
  match f with
  | .one i => i
  | .two build => build b1
  | .three build => build (word b2 b1)

/-- An entry of the map for a one-byte instruction. -/
def Form.f1 (i : Instr) : Option Form := some (.one i)

/-- An entry of the map for a two-byte instruction. -/
def Form.f2 (build : Byte → Instr) : Option Form := some (.two build)

/-- An entry of the map for a three-byte instruction. -/
def Form.f3 (build : Addr → Instr) : Option Form := some (.three build)

/-- R107, row 0x: the columns x0 to xF in order, `none` for an unmapped byte. -/
def opcodeRow0 : List (Option Form) :=
  [Form.f1 .brk, Form.f2 .oraIndX, none, none,
   none, Form.f2 .oraZp, Form.f2 .aslZp, none,
   Form.f1 .php, Form.f2 .oraImm, Form.f1 .aslAcc, none,
   none, Form.f3 .oraAbs, Form.f3 .aslAbs, none]

/-- R107, row 1x: the columns x0 to xF in order, `none` for an unmapped byte. -/
def opcodeRow1 : List (Option Form) :=
  [Form.f2 .bpl, Form.f2 .oraIndY, none, none,
   none, Form.f2 .oraZpX, Form.f2 .aslZpX, none,
   Form.f1 .clc, Form.f3 .oraAbsY, none, none,
   none, Form.f3 .oraAbsX, Form.f3 .aslAbsX, none]

/-- R107, row 2x: the columns x0 to xF in order, `none` for an unmapped byte. -/
def opcodeRow2 : List (Option Form) :=
  [Form.f3 .jsr, Form.f2 .andIndX, none, none,
   Form.f2 .bitZp, Form.f2 .andZp, Form.f2 .rolZp, none,
   Form.f1 .plp, Form.f2 .andImm, Form.f1 .rolAcc, none,
   Form.f3 .bitAbs, Form.f3 .andAbs, Form.f3 .rolAbs, none]

/-- R107, row 3x: the columns x0 to xF in order, `none` for an unmapped byte. -/
def opcodeRow3 : List (Option Form) :=
  [Form.f2 .bmi, Form.f2 .andIndY, none, none,
   none, Form.f2 .andZpX, Form.f2 .rolZpX, none,
   Form.f1 .sec, Form.f3 .andAbsY, none, none,
   none, Form.f3 .andAbsX, Form.f3 .rolAbsX, none]

/-- R107, row 4x: the columns x0 to xF in order, `none` for an unmapped byte. -/
def opcodeRow4 : List (Option Form) :=
  [Form.f1 .rti, Form.f2 .eorIndX, none, none,
   none, Form.f2 .eorZp, Form.f2 .lsrZp, none,
   Form.f1 .pha, Form.f2 .eorImm, Form.f1 .lsrAcc, none,
   Form.f3 .jmpAbs, Form.f3 .eorAbs, Form.f3 .lsrAbs, none]

/-- R107, row 5x: the columns x0 to xF in order, `none` for an unmapped byte. -/
def opcodeRow5 : List (Option Form) :=
  [Form.f2 .bvc, Form.f2 .eorIndY, none, none,
   none, Form.f2 .eorZpX, Form.f2 .lsrZpX, none,
   Form.f1 .cli, Form.f3 .eorAbsY, none, none,
   none, Form.f3 .eorAbsX, Form.f3 .lsrAbsX, none]

/-- R107, row 6x: the columns x0 to xF in order, `none` for an unmapped byte. -/
def opcodeRow6 : List (Option Form) :=
  [Form.f1 .rts, Form.f2 .adcIndX, none, none,
   none, Form.f2 .adcZp, Form.f2 .rorZp, none,
   Form.f1 .pla, Form.f2 .adcImm, Form.f1 .rorAcc, none,
   Form.f3 .jmpInd, Form.f3 .adcAbs, Form.f3 .rorAbs, none]

/-- R107, row 7x: the columns x0 to xF in order, `none` for an unmapped byte. -/
def opcodeRow7 : List (Option Form) :=
  [Form.f2 .bvs, Form.f2 .adcIndY, none, none,
   none, Form.f2 .adcZpX, Form.f2 .rorZpX, none,
   Form.f1 .sei, Form.f3 .adcAbsY, none, none,
   none, Form.f3 .adcAbsX, Form.f3 .rorAbsX, none]

/-- R107, row 8x: the columns x0 to xF in order, `none` for an unmapped byte. -/
def opcodeRow8 : List (Option Form) :=
  [none, Form.f2 .staIndX, none, none,
   Form.f2 .styZp, Form.f2 .staZp, Form.f2 .stxZp, none,
   Form.f1 .dey, none, Form.f1 .txa, none,
   Form.f3 .styAbs, Form.f3 .staAbs, Form.f3 .stxAbs, none]

/-- R107, row 9x: the columns x0 to xF in order, `none` for an unmapped byte. -/
def opcodeRow9 : List (Option Form) :=
  [Form.f2 .bcc, Form.f2 .staIndY, none, none,
   Form.f2 .styZpX, Form.f2 .staZpX, Form.f2 .stxZpY, none,
   Form.f1 .tya, Form.f3 .staAbsY, Form.f1 .txs, none,
   none, Form.f3 .staAbsX, none, none]

/-- R107, row Ax: the columns x0 to xF in order, `none` for an unmapped byte. -/
def opcodeRowA : List (Option Form) :=
  [Form.f2 .ldyImm, Form.f2 .ldaIndX, Form.f2 .ldxImm, none,
   Form.f2 .ldyZp, Form.f2 .ldaZp, Form.f2 .ldxZp, none,
   Form.f1 .tay, Form.f2 .ldaImm, Form.f1 .tax, none,
   Form.f3 .ldyAbs, Form.f3 .ldaAbs, Form.f3 .ldxAbs, none]

/-- R107, row Bx: the columns x0 to xF in order, `none` for an unmapped byte. -/
def opcodeRowB : List (Option Form) :=
  [Form.f2 .bcs, Form.f2 .ldaIndY, none, none,
   Form.f2 .ldyZpX, Form.f2 .ldaZpX, Form.f2 .ldxZpY, none,
   Form.f1 .clv, Form.f3 .ldaAbsY, Form.f1 .tsx, none,
   Form.f3 .ldyAbsX, Form.f3 .ldaAbsX, Form.f3 .ldxAbsY, none]

/-- R107, row Cx: the columns x0 to xF in order, `none` for an unmapped byte. -/
def opcodeRowC : List (Option Form) :=
  [Form.f2 .cpyImm, Form.f2 .cmpIndX, none, none,
   Form.f2 .cpyZp, Form.f2 .cmpZp, Form.f2 .decZp, none,
   Form.f1 .iny, Form.f2 .cmpImm, Form.f1 .dex, none,
   Form.f3 .cpyAbs, Form.f3 .cmpAbs, Form.f3 .decAbs, none]

/-- R107, row Dx: the columns x0 to xF in order, `none` for an unmapped byte. -/
def opcodeRowD : List (Option Form) :=
  [Form.f2 .bne, Form.f2 .cmpIndY, none, none,
   none, Form.f2 .cmpZpX, Form.f2 .decZpX, none,
   Form.f1 .cld, Form.f3 .cmpAbsY, none, none,
   none, Form.f3 .cmpAbsX, Form.f3 .decAbsX, none]

/-- R107, row Ex: the columns x0 to xF in order, `none` for an unmapped byte. -/
def opcodeRowE : List (Option Form) :=
  [Form.f2 .cpxImm, Form.f2 .sbcIndX, none, none,
   Form.f2 .cpxZp, Form.f2 .sbcZp, Form.f2 .incZp, none,
   Form.f1 .inx, Form.f2 .sbcImm, Form.f1 .nop, none,
   Form.f3 .cpxAbs, Form.f3 .sbcAbs, Form.f3 .incAbs, none]

/-- R107, row Fx: the columns x0 to xF in order, `none` for an unmapped byte. -/
def opcodeRowF : List (Option Form) :=
  [Form.f2 .beq, Form.f2 .sbcIndY, none, none,
   none, Form.f2 .sbcZpX, Form.f2 .incZpX, none,
   Form.f1 .sed, Form.f3 .sbcAbsY, none, none,
   none, Form.f3 .sbcAbsX, Form.f3 .incAbsX, none]

/-- R107: the map by high nibble. -/
def opcodeMap : List (List (Option Form)) :=
  [opcodeRow0, opcodeRow1, opcodeRow2, opcodeRow3, opcodeRow4, opcodeRow5, opcodeRow6, opcodeRow7] ++
  [opcodeRow8, opcodeRow9, opcodeRowA, opcodeRowB, opcodeRowC, opcodeRowD, opcodeRowE, opcodeRowF]

/-- `decode : u8 -> Instruction | Illegal` (R109): what the opcode byte selects, `none` for one of the 105 unmapped
bytes. -/
def decodeOpcode (op : Byte) : Option Form :=
  ((opcodeMap.getD (op.toNat / 16) []).getD (op.toNat % 16) none)

/-- Why a list of bytes does not begin with an instruction. -/
inductive DecodeError where
  /-- The first byte is one of the 105 unmapped bytes (R109, R301). -/
  | unimplementedOpcode (op : Byte)
  /-- The first byte is mapped and an operand byte is missing. -/
  | truncated (op : Byte)
  /-- There is no byte at all. -/
  | noBytes
  deriving DecidableEq, Repr

/-- The instruction a list of bytes begins with, and the bytes after it (R100 to R105, R109). Total, and an error names
its reason. -/
def decode : List Byte → Except DecodeError (Instr × List Byte)
  | [] => .error .noBytes
  | op :: bytes =>
    match decodeOpcode op, bytes with
    | none, _ => .error (.unimplementedOpcode op)
    | some (.one i), rest => .ok (i, rest)
    | some (.two build), b1 :: rest => .ok (build b1, rest)
    | some (.three build), b1 :: b2 :: rest => .ok (build (word b2 b1), rest)
    | some _, _ => .error (.truncated op)

/-- The bytes of an instruction in the order they stand in memory (R102 to R104, R108). -/
def encode : Instr → List Byte
  | .adcImm imm => [0x69#8, imm]
  | .adcZp zp => [0x65#8, zp]
  | .adcZpX zp => [0x75#8, zp]
  | .adcAbs addr => [0x6D#8, loByte addr, hiByte addr]
  | .adcAbsX addr => [0x7D#8, loByte addr, hiByte addr]
  | .adcAbsY addr => [0x79#8, loByte addr, hiByte addr]
  | .adcIndX zp => [0x61#8, zp]
  | .adcIndY zp => [0x71#8, zp]
  | .sbcImm imm => [0xE9#8, imm]
  | .sbcZp zp => [0xE5#8, zp]
  | .sbcZpX zp => [0xF5#8, zp]
  | .sbcAbs addr => [0xED#8, loByte addr, hiByte addr]
  | .sbcAbsX addr => [0xFD#8, loByte addr, hiByte addr]
  | .sbcAbsY addr => [0xF9#8, loByte addr, hiByte addr]
  | .sbcIndX zp => [0xE1#8, zp]
  | .sbcIndY zp => [0xF1#8, zp]
  | .andImm imm => [0x29#8, imm]
  | .andZp zp => [0x25#8, zp]
  | .andZpX zp => [0x35#8, zp]
  | .andAbs addr => [0x2D#8, loByte addr, hiByte addr]
  | .andAbsX addr => [0x3D#8, loByte addr, hiByte addr]
  | .andAbsY addr => [0x39#8, loByte addr, hiByte addr]
  | .andIndX zp => [0x21#8, zp]
  | .andIndY zp => [0x31#8, zp]
  | .oraImm imm => [0x09#8, imm]
  | .oraZp zp => [0x05#8, zp]
  | .oraZpX zp => [0x15#8, zp]
  | .oraAbs addr => [0x0D#8, loByte addr, hiByte addr]
  | .oraAbsX addr => [0x1D#8, loByte addr, hiByte addr]
  | .oraAbsY addr => [0x19#8, loByte addr, hiByte addr]
  | .oraIndX zp => [0x01#8, zp]
  | .oraIndY zp => [0x11#8, zp]
  | .eorImm imm => [0x49#8, imm]
  | .eorZp zp => [0x45#8, zp]
  | .eorZpX zp => [0x55#8, zp]
  | .eorAbs addr => [0x4D#8, loByte addr, hiByte addr]
  | .eorAbsX addr => [0x5D#8, loByte addr, hiByte addr]
  | .eorAbsY addr => [0x59#8, loByte addr, hiByte addr]
  | .eorIndX zp => [0x41#8, zp]
  | .eorIndY zp => [0x51#8, zp]
  | .bitZp zp => [0x24#8, zp]
  | .bitAbs addr => [0x2C#8, loByte addr, hiByte addr]
  | .aslAcc => [0x0A#8]
  | .aslZp zp => [0x06#8, zp]
  | .aslZpX zp => [0x16#8, zp]
  | .aslAbs addr => [0x0E#8, loByte addr, hiByte addr]
  | .aslAbsX addr => [0x1E#8, loByte addr, hiByte addr]
  | .lsrAcc => [0x4A#8]
  | .lsrZp zp => [0x46#8, zp]
  | .lsrZpX zp => [0x56#8, zp]
  | .lsrAbs addr => [0x4E#8, loByte addr, hiByte addr]
  | .lsrAbsX addr => [0x5E#8, loByte addr, hiByte addr]
  | .rolAcc => [0x2A#8]
  | .rolZp zp => [0x26#8, zp]
  | .rolZpX zp => [0x36#8, zp]
  | .rolAbs addr => [0x2E#8, loByte addr, hiByte addr]
  | .rolAbsX addr => [0x3E#8, loByte addr, hiByte addr]
  | .rorAcc => [0x6A#8]
  | .rorZp zp => [0x66#8, zp]
  | .rorZpX zp => [0x76#8, zp]
  | .rorAbs addr => [0x6E#8, loByte addr, hiByte addr]
  | .rorAbsX addr => [0x7E#8, loByte addr, hiByte addr]
  | .cmpImm imm => [0xC9#8, imm]
  | .cmpZp zp => [0xC5#8, zp]
  | .cmpZpX zp => [0xD5#8, zp]
  | .cmpAbs addr => [0xCD#8, loByte addr, hiByte addr]
  | .cmpAbsX addr => [0xDD#8, loByte addr, hiByte addr]
  | .cmpAbsY addr => [0xD9#8, loByte addr, hiByte addr]
  | .cmpIndX zp => [0xC1#8, zp]
  | .cmpIndY zp => [0xD1#8, zp]
  | .cpxImm imm => [0xE0#8, imm]
  | .cpxZp zp => [0xE4#8, zp]
  | .cpxAbs addr => [0xEC#8, loByte addr, hiByte addr]
  | .cpyImm imm => [0xC0#8, imm]
  | .cpyZp zp => [0xC4#8, zp]
  | .cpyAbs addr => [0xCC#8, loByte addr, hiByte addr]
  | .bcc rel => [0x90#8, rel]
  | .bcs rel => [0xB0#8, rel]
  | .beq rel => [0xF0#8, rel]
  | .bne rel => [0xD0#8, rel]
  | .bmi rel => [0x30#8, rel]
  | .bpl rel => [0x10#8, rel]
  | .bvc rel => [0x50#8, rel]
  | .bvs rel => [0x70#8, rel]
  | .brk => [0x00#8]
  | .jsr addr => [0x20#8, loByte addr, hiByte addr]
  | .rts => [0x60#8]
  | .rti => [0x40#8]
  | .jmpAbs addr => [0x4C#8, loByte addr, hiByte addr]
  | .jmpInd addr => [0x6C#8, loByte addr, hiByte addr]
  | .pha => [0x48#8]
  | .php => [0x08#8]
  | .pla => [0x68#8]
  | .plp => [0x28#8]
  | .inx => [0xE8#8]
  | .iny => [0xC8#8]
  | .dex => [0xCA#8]
  | .dey => [0x88#8]
  | .clc => [0x18#8]
  | .cld => [0xD8#8]
  | .cli => [0x58#8]
  | .clv => [0xB8#8]
  | .sec => [0x38#8]
  | .sed => [0xF8#8]
  | .sei => [0x78#8]
  | .tax => [0xAA#8]
  | .tay => [0xA8#8]
  | .txa => [0x8A#8]
  | .tya => [0x98#8]
  | .tsx => [0xBA#8]
  | .txs => [0x9A#8]
  | .nop => [0xEA#8]
  | .ldaImm imm => [0xA9#8, imm]
  | .ldaZp zp => [0xA5#8, zp]
  | .ldaZpX zp => [0xB5#8, zp]
  | .ldaAbs addr => [0xAD#8, loByte addr, hiByte addr]
  | .ldaAbsX addr => [0xBD#8, loByte addr, hiByte addr]
  | .ldaAbsY addr => [0xB9#8, loByte addr, hiByte addr]
  | .ldaIndX zp => [0xA1#8, zp]
  | .ldaIndY zp => [0xB1#8, zp]
  | .ldxImm imm => [0xA2#8, imm]
  | .ldxZp zp => [0xA6#8, zp]
  | .ldxZpY zp => [0xB6#8, zp]
  | .ldxAbs addr => [0xAE#8, loByte addr, hiByte addr]
  | .ldxAbsY addr => [0xBE#8, loByte addr, hiByte addr]
  | .ldyImm imm => [0xA0#8, imm]
  | .ldyZp zp => [0xA4#8, zp]
  | .ldyZpX zp => [0xB4#8, zp]
  | .ldyAbs addr => [0xAC#8, loByte addr, hiByte addr]
  | .ldyAbsX addr => [0xBC#8, loByte addr, hiByte addr]
  | .staZp zp => [0x85#8, zp]
  | .staZpX zp => [0x95#8, zp]
  | .staAbs addr => [0x8D#8, loByte addr, hiByte addr]
  | .staAbsX addr => [0x9D#8, loByte addr, hiByte addr]
  | .staAbsY addr => [0x99#8, loByte addr, hiByte addr]
  | .staIndX zp => [0x81#8, zp]
  | .staIndY zp => [0x91#8, zp]
  | .stxZp zp => [0x86#8, zp]
  | .stxZpY zp => [0x96#8, zp]
  | .stxAbs addr => [0x8E#8, loByte addr, hiByte addr]
  | .styZp zp => [0x84#8, zp]
  | .styZpX zp => [0x94#8, zp]
  | .styAbs addr => [0x8C#8, loByte addr, hiByte addr]
  | .incZp zp => [0xE6#8, zp]
  | .incZpX zp => [0xF6#8, zp]
  | .incAbs addr => [0xEE#8, loByte addr, hiByte addr]
  | .incAbsX addr => [0xFE#8, loByte addr, hiByte addr]
  | .decZp zp => [0xC6#8, zp]
  | .decZpX zp => [0xD6#8, zp]
  | .decAbs addr => [0xCE#8, loByte addr, hiByte addr]
  | .decAbsX addr => [0xDE#8, loByte addr, hiByte addr]

/-- The opcode byte of an instruction (R108). -/
def Instr.opcode (i : Instr) : Byte := (encode i).headD 0

/-- The instruction read from `nbits` bits `w` numbered as spec/opcode_table.json numbers them: byte 0 in bits 7 to 0,
byte 1 in bits 15 to 8, byte 2 in bits 23 to 16; every bit from `nbits` up is 0. -/
def decodeTableWord (nbits w : Nat) : Option Instr :=
  let v := w % 2 ^ nbits
  match decode [BitVec.ofNat 8 v, BitVec.ofNat 8 (v / 2 ^ 8), BitVec.ofNat 8 (v / 2 ^ 16)] with
  | .ok (i, _) => some i
  | .error _ => none

end Sys2Proof
end

