-- ==== Sys2Proof/Machine/Fetch.lean ====
section
/-!
DEFINITION. The fetch of a step (spec/40_fetch_decode_execute.md rules R131 to R133): the opcode byte, then the operand bytes
its form has, all before anything else of the step (20_memory.md R78, R84).
-/

namespace Sys2Proof.Machine

/-- MODEL: the bus log starts anew with each step or host move (log entry 6). -/
def State.clearLog (s : State) : State := s.setBus { s.bus with log := [] }

/-- The operand bytes a form has, from `PC + 1` and `PC + 2` in that order (R133), and the instruction. -/
def State.fetchOperands (s : State) (f : Form) : Instr × State :=
  match f with
  | .one i => (i, s)
  | .two build =>
    let b1 := s.memRead (s.pc + 1)
    (build b1.1, b1.2)
  | .three build =>
    let w := s.readWord (s.pc + 1) (s.pc + 2)
    (build w.1, w.2)

/-- Fetch and decode (R131 to R133): the instruction at PC and the state after its bytes are read, or the unmapped byte, after
the opcode read alone (R132). -/
def State.fetch (s : State) : Except Byte (Instr × State) :=
  let op := s.clearLog.memRead s.pc
  match decodeOpcode op.1 with
  | none => .error op.1
  | some f => .ok (op.2.fetchOperands f)

/-- A bus on which memory answers at an address: where a device does, the address becomes a region of its own. -/
def Bus.memoryAt (b : Bus) (a : Addr) : Bus :=
  match b.kindAt a with
  | .device => { b with regions := { base := a.toNat, size := 1, kind := .ram } :: b.regions }
  | .ram | .rom => b

/-- A state in which a read at an address answers a byte: what a platform that loads a program does (log entry 10). -/
def State.placeByte (s : State) (a : Addr) (v : Byte) : State :=
  let b := s.bus.memoryAt a
  s.setBus { b with mem := Memory.write b.mem a v }

end Sys2Proof.Machine
end

