-- ==== Sys2Proof/Machine/Step.lean ====
section
/-!
DEFINITION. The step (spec/40_fetch_decode_execute.md rule R130): fetch, decode, then the instruction's meaning, which resolves,
executes and commits; and how the host places an instruction where the step fetches.
-/

namespace Sys2Proof.Machine

/-- One step (R130 to R135, R301). -/
def step (s : State) : Host.Outcome State Fault Refusal :=
  match s.fetch with
  | .error op => .fault (.unimplementedOpcode op)
  | .ok (i, t) => exec i t

/-- The state with the instruction of `nbits` bits `w` (numbered as spec/opcode_table.json numbers them) at PC: its three bytes
at `PC`, `PC + 1` and `PC + 2`, those above `nbits` zero. -/
def State.withFetchWord (s : State) (nbits w : Nat) : State :=
  let v := w % 2 ^ nbits
  ((s.placeByte s.pc (BitVec.ofNat 8 v)).placeByte (s.pc + 1) (BitVec.ofNat 8 (v / 2 ^ 8))).placeByte (s.pc + 2)
    (BitVec.ofNat 8 (v / 2 ^ 16))

end Sys2Proof.Machine
end

