-- ==== Sys2Proof/Machine/HostMoves.lean ====
section
/-!
DEFINITION. The host's moves between steps and the end of a run (spec/60_exceptions.md rules R310, R311, R314,
70_reset_and_hazards.md rules R330, R346), and the step that holds the spec's own model fault for unwritten registers (R307).
-/

namespace Sys2Proof.Machine

/-! Unwritten registers (R307). -/

/-- Does the instruction read the register (the table of R307)? -/
def readsReg (i : Instr) (r : Reg) : Bool :=
  match r with
  | .a => (i.mnemonic ∈ [.adc, .sbc, .and, .ora, .eor, .bit, .cmp, .sta, .pha, .tax, .tay]) || i.mode == .accumulator
  | .x => (i.mnemonic ∈ [.cpx, .stx, .txa, .txs, .inx, .dex]) || (i.mode ∈ [.zeroPageX, .absoluteX, .indexedIndirectX])
  | .y => (i.mnemonic ∈ [.cpy, .sty, .tya, .iny, .dey]) || (i.mode ∈ [.zeroPageY, .absoluteY, .indirectIndexedY])

/-- Has the register been written since reset (R24, R48)? -/
def State.written (s : State) (r : Reg) : Bool :=
  match r with
  | .a => s.aWritten
  | .x => s.xWritten
  | .y => s.yWritten

/-- The first register, in the order A, X, Y, that the instruction reads and that holds no value (R307). -/
def State.firstUnwritten (s : State) (i : Instr) : Option Reg :=
  [Reg.a, Reg.x, Reg.y].find? fun r => readsReg i r && !s.written r

/-- The step with the check of R307, after the operand fetch and after the decode fault (R313): it stops on a read of a register
nothing has written since reset, which `step` does not (log entry 2). -/
def checkedStep (s : State) : Out :=
  match s.fetch with
  | .error op => .fault (.unimplementedOpcode op)
  | .ok (i, t) =>
    match t.firstUnwritten i with
    | some r => .fault (.unwrittenRegister r)
    | none => exec i t

/-! Reset and interrupts. -/

/-- The reset operation (R330, R331): the vector is read, every register takes its reset value, and the bus keeps its
contents. -/
def State.hostReset (s : State) : State :=
  let v := s.clearLog.readWord resetVector (resetVector + 1)
  { State.reset with pc := v.1, bus := v.2.bus }

/-- IRQ (R310): not taken and not remembered while I is 1, else the entry through 0xFFFE; the answer says whether it was taken. -/
def State.irq (s : State) : State × Bool :=
  if s.flag .interruptDisable then (s, false)
  else ({ s.clearLog.enter irqVector s.pc false with result := none }, true)

/-- NMI (R311): always taken, through 0xFFFA. -/
def State.nmi (s : State) : State := { s.clearLog.enter nmiVector s.pc false with result := none }

/-- The move bus_update (R81, R314): other components give the bus any value: its memory, its map, the platform's state. -/
def State.busUpdate (s : State) (b : Bus) : State := s.setBus b

/-- The host's moves (R314); `stop` is the end of a list of them. -/
inductive HostMove where
  | step
  | reset
  | irq
  | nmi
  | busUpdate (b : Bus)
  deriving DecidableEq, Repr

/-- One move of the host (R314), with `f` as the step. -/
def hostMove (f : State → Out) (m : HostMove) (s : State) : Out :=
  match m with
  | .step => f s
  | .reset => .next s.hostReset
  | .irq => .next s.irq.1
  | .nmi => .next s.nmi
  | .busUpdate b => .next (s.busUpdate b)

/-! Runs (R346). -/

/-- How a run stands after a list of moves (R346). -/
inductive RunEnd where
  /-- The run has ended normally: PC is the stop address at a step boundary. -/
  | normal (s : State)
  /-- A step has ended the run with a fault, in the state before it (R301). -/
  | fault (r : Fault) (s : State)
  /-- An instruction without meaning has ended the run. -/
  | refused (r : Refusal) (s : State)
  /-- The host has stopped before the run ended (R11, R314). -/
  | stopped (s : State)
  deriving DecidableEq, Repr

/-- A launch (R331, R346): a bus, and reset as the first move. -/
def launch (b : Bus) : State := (State.reset.setBus b).hostReset

/-- The run from a step boundary under a list of moves, with `f` as the step and `stop` as the stop address; it ends normally at
the first boundary with PC = `stop`, before that step's fetch (R346). Several moves can share a boundary (R313), and the spec does
not say whether PC is looked at between them: here it is looked at before every move, so that a run at `stop` ends before an IRQ,
NMI, reset or bus_update made there (DESIGN CHOICE, unsafe, log entry 13). -/
def runMoves (f : State → Out) (stop : Addr) : List HostMove → State → RunEnd
  | [], s => if s.pc = stop then .normal s else .stopped s
  | m :: ms, s =>
    if s.pc = stop then .normal s
    else
      match hostMove f m s with
      | .next t => runMoves f stop ms t
      | .fault r => .fault r s
      | .refused r => .refused r s

/-- At most `n` steps of a run with no other move of the host (R346). -/
def runTo (stop : Addr) (n : Nat) (s : State) : RunEnd := runMoves step stop (List.replicate n .step) s

end Sys2Proof.Machine
end

