-- ==== Sys2Proof/Safety.lean ====
section
/-!
DEFINITION. What every state of a run keeps, which states a run reaches, and what a safe run is, in the terms the statements use
(spec/60_exceptions.md R314, 70_reset_and_hazards.md R331, R346).
-/

namespace Sys2Proof.Machine

/-- What every step keeps: memory stands in its canonical form, and P holds B as 0 and U as 1 (10_state.md R27). -/
def State.Inv (s : State) : Prop := Memory.wf s.bus.mem = true ∧ s.p.getLsbD 4 = false ∧ s.p.getLsbD 5 = true

/-- A host move that leaves memory in its canonical form: all but a bus_update with another list. -/
def HostMove.wf : HostMove → Bool
  | .busUpdate b => Memory.wf b.mem
  | .step | .reset | .irq | .nmi => true

/-- The states of runs (R331, R346): reset is the first move, and the host moves on. -/
inductive Reachable : State → Prop where
  | launch (b : Bus) (h : Memory.wf b.mem = true) : Reachable (launch b)
  | move {s t : State} (m : HostMove) (hm : m.wf = true) (h : Reachable s) (ht : hostMove step m s = .next t) : Reachable t

/-- A safe step: it completes (R135), which it does unless the fetched byte is unmapped (R301). -/
def State.StepSafe (s : State) : Prop := ∃ t, step s = .next t

/-- A safe step under R307 too: it reads no register that nothing has written since reset. -/
def State.CheckedStepSafe (s : State) : Prop := ∃ t, checkedStep s = .next t

/-- A run of at most `n` steps that ends normally at the stop address (R346). -/
def State.EndsAt (s : State) (stop : Addr) (n : Nat) : Prop := ∃ t, runTo stop n s = .normal t

end Sys2Proof.Machine
end

