-- ==== Sys2Proof/Certificates/Slice0/Obligations.lean ====
section
/-!
DEFINITION. The statements for the provers. The first part holds the words they are said in; each statement's docstring names
the rules of spec/ it formalises. `s` is the state before, `t` the state after.
-/

open Sys2Proof Sys2Proof.Machine

namespace Sys2Proof.Claims

/-- `exec i s` answers a next state that satisfies `post`. -/
def Completes (i : Instr) (s : State) (post : State → Prop) : Prop := ∃ t, exec i s = .next t ∧ post t

/-- PC has moved past the instruction and the StepResult says so (R134, R135). -/
def FallsThrough (i : Instr) (s t : State) : Prop :=
  t.pc = s.pc + BitVec.ofNat 16 (modeLength i.mode) ∧ t.result = some { length := modeLength i.mode, jumped := false }

/-- PC has taken an override and the StepResult says so (R134, R135). -/
def JumpsTo (i : Instr) (target : Addr) (t : State) : Prop :=
  t.pc = target ∧ t.result = some { length := modeLength i.mode, jumped := true }

/-- A is unchanged. -/
def SameA (s t : State) : Prop := t.a = s.a ∧ t.aWritten = s.aWritten

/-- X is unchanged. -/
def SameX (s t : State) : Prop := t.x = s.x ∧ t.xWritten = s.xWritten

/-- Y is unchanged. -/
def SameY (s t : State) : Prop := t.y = s.y ∧ t.yWritten = s.yWritten

/-- A has been written with `v`. -/
def WroteA (v : Byte) (t : State) : Prop := t.a = v ∧ t.aWritten = true

/-- X has been written with `v`. -/
def WroteX (v : Byte) (t : State) : Prop := t.x = v ∧ t.xWritten = true

/-- Y has been written with `v`. -/
def WroteY (v : Byte) (t : State) : Prop := t.y = v ∧ t.yWritten = true

/-- Every flag outside the list is unchanged, B is 0 and U is 1. -/
def SameFlagsBut (fs : List Flag) (s t : State) : Prop :=
  (∀ f, f ∉ fs → t.flag f = s.flag f) ∧ t.p.getLsbD 4 = false ∧ t.p.getLsbD 5 = true

/-- Z and N follow `v` (R46). -/
def NZOf (v : Byte) (t : State) : Prop := t.flag .zero = decide (v = 0#8) ∧ t.flag .negative = v.msb

/-- Every byte of memory is unchanged, and so is the platform's map (what an access may change of them is log entry 4). -/
def SameMemory (s t : State) : Prop := (∀ c, t.byteAt c = s.byteAt c) ∧ t.bus.regions = s.bus.regions

/-- Every byte of memory but the one at `ea` is unchanged, and so is the map; where memory takes writes at `ea`, it holds `v`
there, and where it does not, it is unchanged there too. -/
def StoredAt (ea : Addr) (v : Byte) (s t : State) : Prop :=
  (∀ c, c ≠ ea → t.byteAt c = s.byteAt c) ∧ t.bus.regions = s.bus.regions ∧
  t.byteAt ea = if s.bus.kindAt ea = .ram then v else s.byteAt ea

/-- The bus has answered the resolver's reads and nothing else has touched it, and no byte of memory has changed. -/
def OnlyOperandReads (i : Instr) (s t : State) : Prop := t.bus = (s.resolveInstr i).2.bus ∧ SameMemory s t

/-- The instruction's only accesses are none: the bus is the same. -/
def SameBus (s t : State) : Prop := t.bus = s.bus

/-- The stack byte `k` places below SP, in page 0x01 (R25, R75). -/
def stackBelow (s : State) (k : Nat) : Addr := BitVec.ofNat 16 (256 + (s.sp.toNat + 256 - k) % 256)

/-- The stack byte `k` places above SP, in page 0x01 (R25, R76). -/
def stackAbove (s : State) (k : Nat) : Addr := BitVec.ofNat 16 (256 + (s.sp.toNat + k) % 256)

/-- The accesses of a bus log without the bytes: is it a write, and where? -/
def touch : Access → Bool × Addr
  | .read c _ => (false, c)
  | .write c _ => (true, c)

/-- The reads of an instruction's own bytes, the opcode first (R131, R133), with the bytes of its encoding. -/
def fetchLog (s : State) (i : Instr) : List Access :=
  (encode i).zipIdx.map fun bk => .read (s.pc + BitVec.ofNat 16 bk.2) bk.1

/-- Where the fetch of an instruction reads: one byte after the other from PC (R131, R133). -/
def fetchTouches (s : State) (i : Instr) : List (Bool × Addr) :=
  (List.range (modeLength i.mode)).map fun k => (false, s.pc + BitVec.ofNat 16 k)

/-- The bus after the fetch has read its first `n` bytes from PC on, one after the other (R131, R133). -/
def busAfter (s : State) : Nat → Bus
  | 0 => { s.bus with log := [] }
  | n + 1 => ((busAfter s n).readByte (s.pc + BitVec.ofNat 16 n)).2

/-- The byte the bus answers at PC + `n` once the bytes before it are read. -/
def byteFetched (s : State) (n : Nat) : Byte := (busAfter s n).answer (s.pc + BitVec.ofNat 16 n)

/-- The platform has states `B` and the operations `read` and `write` of R60, and `view` gives its state after the accesses it
has seen. -/
def PlatformIs {B : Type} (read : B → Addr → Byte × B) (write : B → Addr → Byte → B) (view : List Access → B) : Prop :=
  ∀ (h : List Access) (c : Addr) (v : Byte),
    (Config.deviceByte h c, view (.read c (Config.deviceByte h c) :: h)) = read (view h) c ∧
    view (.write c v :: h) = write (view h) c v

/-- The pointer reads of a mode, low byte first (R148 to R150). -/
def pointerTouches (s : State) (o : Operand) : List (Bool × Addr) :=
  match o with
  | .memory (.indexedIndirectX zp) => [(false, zext16 (zp + s.x)), (false, zext16 (zp + s.x + 1))]
  | .memory (.indirectIndexedY zp) => [(false, zext16 zp), (false, zext16 (zp + 1))]
  | .indirect ptr => [(false, ptr), (false, (ptr &&& 0xFF00#16) ||| ((ptr + 1) &&& 0x00FF#16))]
  | _ => []

/-- The data access of a class at the effective address (R136, R78 items 4 and 5). -/
def dataTouches (s : State) (i : Instr) : List (Bool × Addr) :=
  let ea := (s.resolveInstr i).1.ea.toList
  match accessClass i with
  | .read => ea.map fun c => (false, c)
  | .write => ea.map fun c => (true, c)
  | .readModifyWrite => ea.flatMap fun c => [(false, c), (true, c)]
  | .accumulator | .jump | .branch | .implied => []

/-- The stack and vector accesses of a mnemonic, in the order of its rule (R231 to R239). -/
def stackTouches (s : State) (i : Instr) : List (Bool × Addr) :=
  match i.mnemonic with
  | .pha | .php => [(true, stackBelow s 0)]
  | .pla | .plp => [(false, stackAbove s 1)]
  | .jsr => [(true, stackBelow s 0), (true, stackBelow s 1)]
  | .rts => [(false, stackAbove s 1), (false, stackAbove s 2)]
  | .rti => [(false, stackAbove s 1), (false, stackAbove s 2), (false, stackAbove s 3)]
  | .brk => [(true, stackBelow s 0), (true, stackBelow s 1), (true, stackBelow s 2), (false, 0xFFFE#16), (false, 0xFFFF#16)]
  | _ => []

/-- Every access an instruction makes after its fetch, in order (R78). -/
def executeTouches (s : State) (i : Instr) : List (Bool × Addr) :=
  pointerTouches s i.operand ++ dataTouches s i ++ stackTouches s i

/-- The addresses an instruction stores to: the effective address of a store or a read-modify-write, and the stack bytes of a
push. -/
def storedAddresses (s : State) (i : Instr) : List Addr :=
  ((executeTouches s i).filter fun c => c.1).map fun c => c.2

/-- A, X, Y and SP are unchanged. -/
def SameRegisters (s t : State) : Prop := SameA s t ∧ SameX s t ∧ SameY s t ∧ t.sp = s.sp

/-- A read-class instruction's operand value is `m`; its accesses are the resolver's alone; and it falls through. -/
def ReadsOperand (i : Instr) (s t : State) (m : Byte) : Prop :=
  (s.resolveInstr i).1.value = some m ∧ OnlyOperandReads i s t ∧ FallsThrough i s t

/-- An instruction with operand value `m` and result `r`: in Accumulator mode `r` goes to A and the bus is not touched, else it
is written once to the effective address it was read from (R190, R288). -/
def Modifies (i : Instr) (s t : State) (m r : Byte) : Prop :=
  (s.resolveInstr i).1.value = some m ∧ SameX s t ∧ SameY s t ∧ t.sp = s.sp ∧ FallsThrough i s t ∧
  (i.mode = .accumulator → m = s.a ∧ WroteA r t ∧ SameBus s t) ∧
  (i.mode ≠ .accumulator →
    ∃ ea, (s.resolveInstr i).1.ea = some ea ∧ t.bus = (s.resolveInstr i).2.bus.writeByte ea r ∧ StoredAt ea r s t ∧ SameA s t)

/-- ADC or SBC with addend `b` (R170, R172): the sum in A and the four flags. -/
def AddsToA (s t : State) (b : Byte) : Prop :=
  t.aWritten = true ∧
  t.a.toNat = (s.a.toNat + b.toNat + (s.flag .carry).toNat) % 256 ∧
  t.flag .carry = decide (256 ≤ s.a.toNat + b.toNat + (s.flag .carry).toNat) ∧
  t.flag .overflow = (s.a.msb == b.msb && t.a.msb != s.a.msb) ∧
  NZOf t.a t ∧
  SameFlagsBut [.carry, .overflow, .zero, .negative] s t ∧
  SameX s t ∧ SameY s t ∧ t.sp = s.sp

/-- The comparison of a register with `m` (R200). -/
def Compares (s t : State) (reg m : Byte) : Prop :=
  t.flag .carry = decide (m.toNat ≤ reg.toNat) ∧ t.flag .zero = decide (reg = m) ∧ t.flag .negative = (reg - m).msb ∧
  SameFlagsBut [.carry, .zero, .negative] s t ∧ SameRegisters s t

/-- A conditional branch (R210): PC takes `PC + 2 + rel`, with `rel` signed, modulo 65 536, when the condition holds, and `PC + 2`
when it does not; nothing else changes. -/
def Branches (i : Instr) (op rel : Byte) (cond : Bool) (s : State) : Prop :=
  i.opcode = op ∧ Completes i s fun t =>
    (if cond then (t.pc.toNat : Int) = ((s.pc.toNat : Int) + 2 + rel.toInt) % 65536
      else t.pc.toNat = (s.pc.toNat + 2) % 65536) ∧
    t.result = some { length := 2, jumped := cond } ∧ SameRegisters s t ∧ t.p = s.p ∧ SameBus s t

/-- The shared entry sequence (R303): the return address, high byte first, and then P are pushed, I is set, PC takes the word at
the vector, and nothing else changes. -/
def Enters (s t : State) (vec ret : Addr) (pushed : Byte) : Prop :=
  (∃ lo hi : Byte,
    t.bus.log = s.bus.log ++ [.write (stackBelow s 0) (ret.extractLsb' 8 8), .write (stackBelow s 1) (ret.extractLsb' 0 8),
      .write (stackBelow s 2) pushed, .read vec lo, .read (vec + 1) hi] ∧
    t.pc.toNat = 256 * hi.toNat + lo.toNat ∧
    (s.bus.kindAt vec ≠ .device → lo = t.byteAt vec) ∧ (s.bus.kindAt (vec + 1) ≠ .device → hi = t.byteAt (vec + 1))) ∧
  t.sp.toNat = (s.sp.toNat + 253) % 256 ∧ t.flag .interruptDisable = true ∧ SameFlagsBut [.interruptDisable] s t ∧
  SameA s t ∧ SameX s t ∧ SameY s t ∧ t.bus.regions = s.bus.regions ∧
  (∀ c, c ≠ stackBelow s 0 → c ≠ stackBelow s 1 → c ≠ stackBelow s 2 → t.byteAt c = s.byteAt c) ∧
  (s.bus.kindAt (stackBelow s 0) = .ram → t.byteAt (stackBelow s 0) = ret.extractLsb' 8 8) ∧
  (s.bus.kindAt (stackBelow s 1) = .ram → t.byteAt (stackBelow s 1) = ret.extractLsb' 0 8) ∧
  (s.bus.kindAt (stackBelow s 2) = .ram → t.byteAt (stackBelow s 2) = pushed)

/-- A one-byte instruction that writes one flag with a constant and nothing else (R255). -/
def WritesFlag (i : Instr) (op : Byte) (f : Flag) (b : Bool) (s : State) : Prop :=
  i.opcode = op ∧ Completes i s fun t =>
    t.flag f = b ∧ SameFlagsBut [f] s t ∧ SameRegisters s t ∧ SameBus s t ∧ t.pc = s.pc + 1 ∧
    t.result = some { length := 1, jumped := false }

/-- The instructions that write A (R21). -/
def writesA (i : Instr) : Prop :=
  i.mnemonic ∈ [.adc, .sbc, .and, .ora, .eor, .lda, .pla, .txa, .tya] ∨
  (i.mnemonic ∈ [.asl, .lsr, .rol, .ror] ∧ i.mode = .accumulator)

/-- The instructions that read A (R307). -/
def readsA (i : Instr) : Prop :=
  i.mnemonic ∈ [.adc, .sbc, .and, .ora, .eor, .bit, .cmp, .sta, .pha, .tax, .tay] ∨
  (i.mnemonic ∈ [.asl, .lsr, .rol, .ror] ∧ i.mode = .accumulator)

/-- The instructions that read X (R307). -/
def readsX (i : Instr) : Prop :=
  i.mnemonic ∈ [.cpx, .stx, .txa, .txs, .inx, .dex] ∨ i.mode ∈ [.zeroPageX, .absoluteX, .indexedIndirectX]

/-- The instructions that read Y (R307). -/
def readsY (i : Instr) : Prop :=
  i.mnemonic ∈ [.cpy, .sty, .tya, .iny, .dey] ∨ i.mode ∈ [.zeroPageY, .absoluteY, .indirectIndexedY]

/-- The mnemonics that write a flag (the table of R36). -/
def flagWriters : Flag → List Mnemonic
  | .carry => [.adc, .sbc, .asl, .lsr, .rol, .ror, .cmp, .cpx, .cpy, .clc, .sec, .plp, .rti]
  | .decimal => [.cld, .sed, .plp, .rti]
  | .interruptDisable => [.cli, .sei, .plp, .rti, .brk]
  | .overflow => [.adc, .sbc, .bit, .clv, .plp, .rti]
  | .zero | .negative =>
    [.adc, .sbc, .and, .ora, .eor, .bit, .asl, .lsr, .rol, .ror, .cmp, .cpx, .cpy, .inc, .dec, .inx, .iny, .dex, .dey,
      .lda, .ldx, .ldy, .tax, .tay, .txa, .tya, .tsx, .pla, .plp, .rti]

/-- The state with another value in A. -/
def withA (s : State) (v : Byte) : State := { s with a := v }

/-- The state with another value in X. -/
def withX (s : State) (v : Byte) : State := { s with x := v }

/-- The state with another value in Y. -/
def withY (s : State) (v : Byte) : State := { s with y := v }

/-- The 105 unmapped bytes (R109). -/
def unmapped : List Nat :=
  [0x02, 0x03, 0x04, 0x07, 0x0B, 0x0C, 0x0F, 0x12, 0x13, 0x14, 0x17, 0x1A, 0x1B, 0x1C, 0x1F, 0x22, 0x23, 0x27, 0x2B, 0x2F] ++
  [0x32, 0x33, 0x34, 0x37, 0x3A, 0x3B, 0x3C, 0x3F, 0x42, 0x43, 0x44, 0x47, 0x4B, 0x4F, 0x52, 0x53, 0x54, 0x57, 0x5A, 0x5B] ++
  [0x5C, 0x5F, 0x62, 0x63, 0x64, 0x67, 0x6B, 0x6F, 0x72, 0x73, 0x74, 0x77, 0x7A, 0x7B, 0x7C, 0x7F, 0x80, 0x82, 0x83, 0x87] ++
  [0x89, 0x8B, 0x8F, 0x92, 0x93, 0x97, 0x9B, 0x9C, 0x9E, 0x9F, 0xA3, 0xA7, 0xAB, 0xAF, 0xB2, 0xB3, 0xB7, 0xBB, 0xBF, 0xC2] ++
  [0xC3, 0xC7, 0xCB, 0xCF, 0xD2, 0xD3, 0xD4, 0xD7, 0xDA, 0xDB, 0xDC, 0xDF, 0xE2, 0xE3, 0xE7, 0xEB, 0xEF, 0xF2, 0xF3, 0xF4] ++
  [0xF7, 0xFA, 0xFB, 0xFC, 0xFF]

/-- The row of R108 for a mnemonic: its opcode bytes and the mode of each. -/
def opcodeRow : Mnemonic → List (Byte × Mode)
  | .adc =>
    [(0x69#8, .immediate), (0x65#8, .zeroPage), (0x75#8, .zeroPageX), (0x6D#8, .absolute),
      (0x7D#8, .absoluteX), (0x79#8, .absoluteY), (0x61#8, .indexedIndirectX), (0x71#8, .indirectIndexedY)]
  | .sbc =>
    [(0xE9#8, .immediate), (0xE5#8, .zeroPage), (0xF5#8, .zeroPageX), (0xED#8, .absolute),
      (0xFD#8, .absoluteX), (0xF9#8, .absoluteY), (0xE1#8, .indexedIndirectX), (0xF1#8, .indirectIndexedY)]
  | .and =>
    [(0x29#8, .immediate), (0x25#8, .zeroPage), (0x35#8, .zeroPageX), (0x2D#8, .absolute),
      (0x3D#8, .absoluteX), (0x39#8, .absoluteY), (0x21#8, .indexedIndirectX), (0x31#8, .indirectIndexedY)]
  | .ora =>
    [(0x09#8, .immediate), (0x05#8, .zeroPage), (0x15#8, .zeroPageX), (0x0D#8, .absolute),
      (0x1D#8, .absoluteX), (0x19#8, .absoluteY), (0x01#8, .indexedIndirectX), (0x11#8, .indirectIndexedY)]
  | .eor =>
    [(0x49#8, .immediate), (0x45#8, .zeroPage), (0x55#8, .zeroPageX), (0x4D#8, .absolute),
      (0x5D#8, .absoluteX), (0x59#8, .absoluteY), (0x41#8, .indexedIndirectX), (0x51#8, .indirectIndexedY)]
  | .bit => [(0x24#8, .zeroPage), (0x2C#8, .absolute)]
  | .asl => [(0x0A#8, .accumulator), (0x06#8, .zeroPage), (0x16#8, .zeroPageX), (0x0E#8, .absolute), (0x1E#8, .absoluteX)]
  | .lsr => [(0x4A#8, .accumulator), (0x46#8, .zeroPage), (0x56#8, .zeroPageX), (0x4E#8, .absolute), (0x5E#8, .absoluteX)]
  | .rol => [(0x2A#8, .accumulator), (0x26#8, .zeroPage), (0x36#8, .zeroPageX), (0x2E#8, .absolute), (0x3E#8, .absoluteX)]
  | .ror => [(0x6A#8, .accumulator), (0x66#8, .zeroPage), (0x76#8, .zeroPageX), (0x6E#8, .absolute), (0x7E#8, .absoluteX)]
  | .cmp =>
    [(0xC9#8, .immediate), (0xC5#8, .zeroPage), (0xD5#8, .zeroPageX), (0xCD#8, .absolute),
      (0xDD#8, .absoluteX), (0xD9#8, .absoluteY), (0xC1#8, .indexedIndirectX), (0xD1#8, .indirectIndexedY)]
  | .cpx => [(0xE0#8, .immediate), (0xE4#8, .zeroPage), (0xEC#8, .absolute)]
  | .cpy => [(0xC0#8, .immediate), (0xC4#8, .zeroPage), (0xCC#8, .absolute)]
  | .bcc => [(0x90#8, .relative)]
  | .bcs => [(0xB0#8, .relative)]
  | .beq => [(0xF0#8, .relative)]
  | .bne => [(0xD0#8, .relative)]
  | .bmi => [(0x30#8, .relative)]
  | .bpl => [(0x10#8, .relative)]
  | .bvc => [(0x50#8, .relative)]
  | .bvs => [(0x70#8, .relative)]
  | .brk => [(0x00#8, .implied)]
  | .jsr => [(0x20#8, .absolute)]
  | .rts => [(0x60#8, .implied)]
  | .rti => [(0x40#8, .implied)]
  | .jmp => [(0x4C#8, .absolute), (0x6C#8, .indirect)]
  | .pha => [(0x48#8, .implied)]
  | .php => [(0x08#8, .implied)]
  | .pla => [(0x68#8, .implied)]
  | .plp => [(0x28#8, .implied)]
  | .inx => [(0xE8#8, .implied)]
  | .iny => [(0xC8#8, .implied)]
  | .dex => [(0xCA#8, .implied)]
  | .dey => [(0x88#8, .implied)]
  | .clc => [(0x18#8, .implied)]
  | .cld => [(0xD8#8, .implied)]
  | .cli => [(0x58#8, .implied)]
  | .clv => [(0xB8#8, .implied)]
  | .sec => [(0x38#8, .implied)]
  | .sed => [(0xF8#8, .implied)]
  | .sei => [(0x78#8, .implied)]
  | .tax => [(0xAA#8, .implied)]
  | .tay => [(0xA8#8, .implied)]
  | .txa => [(0x8A#8, .implied)]
  | .tya => [(0x98#8, .implied)]
  | .tsx => [(0xBA#8, .implied)]
  | .txs => [(0x9A#8, .implied)]
  | .nop => [(0xEA#8, .implied)]
  | .lda =>
    [(0xA9#8, .immediate), (0xA5#8, .zeroPage), (0xB5#8, .zeroPageX), (0xAD#8, .absolute),
      (0xBD#8, .absoluteX), (0xB9#8, .absoluteY), (0xA1#8, .indexedIndirectX), (0xB1#8, .indirectIndexedY)]
  | .ldx => [(0xA2#8, .immediate), (0xA6#8, .zeroPage), (0xB6#8, .zeroPageY), (0xAE#8, .absolute), (0xBE#8, .absoluteY)]
  | .ldy => [(0xA0#8, .immediate), (0xA4#8, .zeroPage), (0xB4#8, .zeroPageX), (0xAC#8, .absolute), (0xBC#8, .absoluteX)]
  | .sta =>
    [(0x85#8, .zeroPage), (0x95#8, .zeroPageX), (0x8D#8, .absolute), (0x9D#8, .absoluteX),
      (0x99#8, .absoluteY), (0x81#8, .indexedIndirectX), (0x91#8, .indirectIndexedY)]
  | .stx => [(0x86#8, .zeroPage), (0x96#8, .zeroPageY), (0x8E#8, .absolute)]
  | .sty => [(0x84#8, .zeroPage), (0x94#8, .zeroPageX), (0x8C#8, .absolute)]
  | .inc => [(0xE6#8, .zeroPage), (0xF6#8, .zeroPageX), (0xEE#8, .absolute), (0xFE#8, .absoluteX)]
  | .dec => [(0xC6#8, .zeroPage), (0xD6#8, .zeroPageX), (0xCE#8, .absolute), (0xDE#8, .absoluteX)]

/-- The states agree on everything but the values of registers that nothing has written since reset. -/
def AgreeOnWritten (s s' : State) : Prop :=
  (s.aWritten = true → s'.a = s.a) ∧ (s.xWritten = true → s'.x = s.x) ∧ (s.yWritten = true → s'.y = s.y) ∧
  s' = { s with a := s'.a, x := s'.x, y := s'.y }

end Sys2Proof.Claims

open Sys2Proof.Claims

/-- For every well-formed instruction of the 151 pairs, every value of its operand field and every list of bytes after it, decode (encode i ++ rest) is i with rest left over: no bit of an encoding is dropped. -/
def Obligations.DecodeOfEncodeIsTheInstruction : Prop :=
  ∀ (i : Instr) (rest : List Byte), i.wellFormed = true → decode (encode i ++ rest) = .ok (i, rest)

/-- If decode bytes answers the instruction i and the bytes rest, then bytes is encode i followed by rest: each instruction has one encoding, and the decoder takes exactly its bytes. -/
def Obligations.EncodeOfDecodeIsTheBytes : Prop :=
  ∀ (bytes rest : List Byte) (i : Instr), decode bytes = .ok (i, rest) → bytes = encode i ++ rest

/-- For every mnemonic, mode and byte: some instruction has that mnemonic, mode and opcode byte if and only if the row of R108 for the mnemonic holds the byte under the mode; and every instruction that the byte's form decodes to has that opcode byte. -/
def Obligations.OpcodeTableByMnemonic : Prop :=
  (∀ (m : Mnemonic) (mode : Mode) (op : Byte),
    (∃ i : Instr, i.mnemonic = m ∧ i.mode = mode ∧ i.opcode = op) ↔ (op, mode) ∈ opcodeRow m) ∧
  (∀ (op : Byte) (f : Form), decodeOpcode op = some f → ∀ b1 b2 : Byte, (f.instr b1 b2).opcode = op)

/-- A byte decodes to nothing if and only if it stands in the spec's list of 105 unmapped bytes (a list the spec marks as derived from its opcode map), and a step in which the bus answers such a byte at PC ends with the fault UnimplementedOpcode(byte). -/
def Obligations.UnmappedBytesFault : Prop :=
  unmapped.length = 105 ∧ (∀ b : Byte, decodeOpcode b = none ↔ b.toNat ∈ unmapped) ∧
  (∀ (s : State) (b : Byte), s.bus.answer s.pc = b → b.toNat ∈ unmapped → step s = .fault (.unimplementedOpcode b))

/-- The encoding of every instruction has the length that the table of lengths by mode gives its mode (1 for Implied and Accumulator, 3 for Absolute, AbsoluteX, AbsoluteY and Indirect, 2 for the seven others), and the form its opcode byte alone selects has that length. -/
def Obligations.LengthFollowsFromTheMode : Prop :=
  ∀ i : Instr,
    (i.mode ∈ [.implied, .accumulator] → (encode i).length = 1) ∧
    (i.mode ∈ [.immediate, .zeroPage, .zeroPageX, .zeroPageY, .indexedIndirectX, .indirectIndexedY, .relative] →
      (encode i).length = 2) ∧
    (i.mode ∈ [.absolute, .absoluteX, .absoluteY, .indirect] → (encode i).length = 3) ∧
    (∃ f, decodeOpcode i.opcode = some f ∧ f.length = (encode i).length)

/-- ADC #$50 is 69 50, BIT $1234 is 2C 34 12, ROR $FF,X is 76 FF, CPX $1234 is EC 34 12, BEQ with offset FD is F0 FD, JMP ($30FF) is 6C FF 30, TXS is 9A, STA ($10),Y is 91 10. -/
def Obligations.WordsOfEachFamilyDecode : Prop :=
  decode [0x69#8, 0x50#8] = .ok (.adcImm 0x50#8, []) ∧
  decode [0x2C#8, 0x34#8, 0x12#8] = .ok (.bitAbs 0x1234#16, []) ∧
  decode [0x76#8, 0xFF#8] = .ok (.rorZpX 0xFF#8, []) ∧
  decode [0xEC#8, 0x34#8, 0x12#8] = .ok (.cpxAbs 0x1234#16, []) ∧
  decode [0xF0#8, 0xFD#8] = .ok (.beq 0xFD#8, []) ∧
  decode [0x6C#8, 0xFF#8, 0x30#8] = .ok (.jmpInd 0x30FF#16, []) ∧
  decode [0x9A#8] = .ok (.txs, []) ∧
  decode [0x91#8, 0x10#8] = .ok (.staIndY 0x10#8, [])

/-- If memory (no device) answers at PC, PC + 1 and PC + 2 and the three bytes there begin with the instruction i, then step s is exec i on s whose bus log holds exactly the reads of i's bytes, the opcode first; the registers exec sees, PC among them, are those of s, and PC moves only in exec. That step runs exec also where i reads an A, X or Y that nothing has written, where R133 and R307 end the step with UnwrittenRegister, is the model's choice, log entry 2: that check is checkedStep's and not step's. What a device answers at these addresses is left to FetchOnAnyBus. -/
def Obligations.StepRunsTheDecodedInstruction : Prop :=
  ∀ (s : State) (i : Instr) (rest : List Byte),
    (∀ c, c = s.pc ∨ c = s.pc + 1 ∨ c = s.pc + 2 → s.bus.kindAt c ≠ .device) →
    decode [s.byteAt s.pc, s.byteAt (s.pc + 1), s.byteAt (s.pc + 2)] = .ok (i, rest) →
    step s = exec i (s.setBus { s.bus with log := fetchLog s i })

/-- Whatever answers on the bus: the opcode is the byte the bus answers at PC; if it is mapped, the operand bytes its form has are those the bus then answers at PC + 1 and, after that read, at PC + 2 (modulo 65 536), these reads with these bytes are all the fetch does, and the step is exec of the instruction that opcode and those operand bytes spell. The check of R133 and R307, on the state after these reads and before exec, is checkedStep's and not step's: that step runs exec also where the instruction reads a register nothing has written is the model's choice, log entry 2. If the byte is unmapped, the step faults with it. -/
def Obligations.FetchOnAnyBus : Prop :=
  ∀ s : State, byteFetched s 0 = s.bus.answer s.pc ∧
    (decodeOpcode (byteFetched s 0) = none → step s = .fault (.unimplementedOpcode (byteFetched s 0))) ∧
    (∀ f, decodeOpcode (byteFetched s 0) = some f →
      ∃ (i : Instr) (u : State), i = f.instr (byteFetched s 1) (byteFetched s 2) ∧ u = s.setBus (busAfter s f.length) ∧
        i.opcode = byteFetched s 0 ∧ modeLength i.mode = f.length ∧
        u.bus.log = (List.range f.length).map (fun k => .read (s.pc + BitVec.ofNat 16 k) (byteFetched s k)) ∧
        s.fetch = .ok (i, u) ∧ step s = exec i u ∧
        checkedStep s = (match u.firstUnwritten i with
          | some r => .fault (.unwrittenRegister r)
          | none => exec i u))

/-- For every state and instruction: with the bits of the instruction's encoding placed at PC (State.withFetchWord, the model's own operation, log entry 10), step answers what exec answers for that instruction in the state after its fetch, which has the registers of the state before. That this is so from every state, those included in which the instruction reads an A, X or Y that nothing has written and R133 and R307 end the step with UnwrittenRegister, is the model's choice, log entry 2: that check is checkedStep's and not step's. -/
def Obligations.PlacedInstructionIsRun : Prop :=
  ∀ (s : State) (i : Instr),
    ∃ u : State,
      (s.withFetchWord (8 * (encode i).length)
        (((encode i).getD 0 0).toNat + 256 * ((encode i).getD 1 0).toNat + 65536 * ((encode i).getD 2 0).toNat)).fetch =
          .ok (i, u) ∧
      u = s.setBus u.bus ∧
      step (s.withFetchWord (8 * (encode i).length)
        (((encode i).getD 0 0).toNat + 256 * ((encode i).getD 1 0).toNat + 65536 * ((encode i).getD 2 0).toNat)) =
          exec i u

/-- For every state: if the byte the bus answers at PC is mapped, step answers a next state, so that no register value, address, flag or bus makes a mapped instruction stop; if it is unmapped, step answers the fault UnimplementedOpcode of that byte. (The spec's model fault for unwritten registers is checkedStep's alone, log entry 2.) -/
def Obligations.OnlyUnmappedBytesStopAStep : Prop :=
  ∀ s : State,
    (decodeOpcode (s.bus.answer s.pc) ≠ none → ∃ t, step s = .next t) ∧
    (decodeOpcode (s.bus.answer s.pc) = none → step s = .fault (.unimplementedOpcode (s.bus.answer s.pc)))

/-- For all 151 instructions and every state, exec answers a next state; its StepResult has length len(mode), and jumped is true exactly for JMP, JSR, RTS, RTI, BRK and a branch whose condition holds (even to PC + 2); where it is false, PC is the start value plus len(mode), modulo 65 536. -/
def Obligations.CommitAndStepResult : Prop :=
  ∀ (i : Instr) (s : State), Completes i s fun t =>
    ∃ jumped : Bool,
      t.result = some { length := modeLength i.mode, jumped := jumped } ∧
      (jumped = true ↔
        i.mnemonic ∈ [.jmp, .jsr, .rts, .rti, .brk] ∨
        (i.mnemonic = .bcc ∧ s.flag .carry = false) ∨ (i.mnemonic = .bcs ∧ s.flag .carry = true) ∨
        (i.mnemonic = .bne ∧ s.flag .zero = false) ∨ (i.mnemonic = .beq ∧ s.flag .zero = true) ∨
        (i.mnemonic = .bpl ∧ s.flag .negative = false) ∨ (i.mnemonic = .bmi ∧ s.flag .negative = true) ∨
        (i.mnemonic = .bvc ∧ s.flag .overflow = false) ∨ (i.mnemonic = .bvs ∧ s.flag .overflow = true)) ∧
      (jumped = false → t.pc.toNat = (s.pc.toNat + modeLength i.mode) % 65536)

/-- For every step that completes, the log of the bus is the reads of the instruction's bytes from PC on, then the pointer reads of its mode (low byte first), then the data read and data write of its access class at the effective address, then its pushes, pulls and vector reads; stores, jumps and branches read nothing at their effective address; nothing else is read or written. -/
def Obligations.BusAccessesOfAStepInOrder : Prop :=
  ∀ (s u t : State) (i : Instr), s.fetch = .ok (i, u) → step s = .next t →
    t.bus.log.map touch = fetchTouches s i ++ executeTouches u i

/-- ZeroPage: the operand byte. ZeroPageX and ZeroPageY: the byte plus X or Y, modulo 256. Absolute: the operand word, byte2 ++ byte1. AbsoluteX and AbsoluteY: the word plus X or Y, modulo 65 536. Forming the address reads nothing; a read-class or read-modify-write instruction then reads the value there once. -/
def Obligations.EffectiveAddressesWithoutPointer : Prop :=
  ∀ (s : State) (zp : Byte) (b1 b2 : Byte),
    ((s.effectiveAddress (.zeroPage zp)).1.toNat = zp.toNat ∧ (s.effectiveAddress (.zeroPage zp)).2 = s) ∧
    ((s.effectiveAddress (.zeroPageX zp)).1.toNat = (zp.toNat + s.x.toNat) % 256 ∧
      (s.effectiveAddress (.zeroPageX zp)).2 = s) ∧
    ((s.effectiveAddress (.zeroPageY zp)).1.toNat = (zp.toNat + s.y.toNat) % 256 ∧
      (s.effectiveAddress (.zeroPageY zp)).2 = s) ∧
    ((s.effectiveAddress (.absolute (word b2 b1))).1.toNat = 256 * b2.toNat + b1.toNat ∧
      (s.effectiveAddress (.absolute (word b2 b1))).2 = s) ∧
    ((s.effectiveAddress (.absoluteX (word b2 b1))).1.toNat = (256 * b2.toNat + b1.toNat + s.x.toNat) % 65536 ∧
      (s.effectiveAddress (.absoluteX (word b2 b1))).2 = s) ∧
    ((s.effectiveAddress (.absoluteY (word b2 b1))).1.toNat = (256 * b2.toNat + b1.toNat + s.y.toNat) % 65536 ∧
      (s.effectiveAddress (.absoluteY (word b2 b1))).2 = s) ∧
    (∀ o : MemOperand, ∀ c ∈ [AccessClass.read, AccessClass.readModifyWrite],
      s.resolve c (.memory o) =
        ({ ea := some (s.effectiveAddress o).1,
           value := some ((s.effectiveAddress o).2.bus.answer (s.effectiveAddress o).1) },
          s.setBus ((s.effectiveAddress o).2.bus.readByte (s.effectiveAddress o).1).2)) ∧
    (∀ w : Addr, (s.resolveInstr (.jmpAbs w)).1.ea = some w ∧ (s.resolveInstr (.jsr w)).1.ea = some w) ∧
    (∀ i : Instr, (i.mode ∈ [.zeroPage, .zeroPageX, .zeroPageY] → (encode i).length = 2) ∧
      (i.mode ∈ [.absolute, .absoluteX, .absoluteY] → (encode i).length = 3) ∧
      (i.mode = .zeroPageY → i.mnemonic ∈ [.ldx, .stx]))

/-- Indirect reads its low byte at ptr and its high byte at the next address of ptr's own page; IndexedIndirectX reads at (zp + X) mod 256 and the byte after it modulo 256; IndirectIndexedY reads at zp and (zp + 1) mod 256 and adds Y modulo 65 536. The low byte is read first, on any bus. -/
def Obligations.PointerModesReadLittleEndianInPage : Prop :=
  ∀ (s : State) (ptr : Addr) (zp : Byte),
    (∃ l h : Addr, l = ptr ∧ h.toNat = 256 * (ptr.toNat / 256) + (ptr.toNat + 1) % 256 ∧
      (s.indirectTarget ptr).1.toNat = 256 * ((s.bus.readByte l).2.answer h).toNat + (s.bus.answer l).toNat ∧
      (s.indirectTarget ptr).2 = s.setBus ((s.bus.readByte l).2.readByte h).2) ∧
    (∃ l h : Addr, l.toNat = (zp.toNat + s.x.toNat) % 256 ∧ h.toNat = (zp.toNat + s.x.toNat + 1) % 256 ∧
      (s.effectiveAddress (.indexedIndirectX zp)).1.toNat =
        256 * ((s.bus.readByte l).2.answer h).toNat + (s.bus.answer l).toNat ∧
      (s.effectiveAddress (.indexedIndirectX zp)).2 = s.setBus ((s.bus.readByte l).2.readByte h).2) ∧
    (∃ l h : Addr, l.toNat = zp.toNat ∧ h.toNat = (zp.toNat + 1) % 256 ∧
      (s.effectiveAddress (.indirectIndexedY zp)).1.toNat =
        (256 * ((s.bus.readByte l).2.answer h).toNat + (s.bus.answer l).toNat + s.y.toNat) % 65536 ∧
      (s.effectiveAddress (.indirectIndexedY zp)).2 = s.setBus ((s.bus.readByte l).2.readByte h).2) ∧
    (∀ i : Instr, (i.mode ∈ [.indexedIndirectX, .indirectIndexedY] → (encode i).length = 2) ∧
      (i.mode = .indirect → i.mnemonic = .jmp ∧ (encode i).length = 3))

/-- Read class: the operand byte for Immediate with no address and no access, else the byte at the effective address. Read-modify-write: the byte at the address. Accumulator: A, with no access (the model's choice, log entry 14: R137 gives this class no value, R138 gives it A). Write, jump, branch, implied: no value. Write and read-modify-write have an effective address. The class of an instruction is the table's. -/
def Obligations.ResolverContractByClass : Prop :=
  ∀ (i : Instr) (s : State),
    (accessClass i = .read ↔ i.mnemonic ∈ [.adc, .sbc, .and, .ora, .eor, .bit, .cmp, .cpx, .cpy, .lda, .ldx, .ldy]) ∧
    (accessClass i = .write ↔ i.mnemonic ∈ [.sta, .stx, .sty]) ∧
    (accessClass i = .readModifyWrite ↔
      i.mnemonic ∈ [.asl, .lsr, .rol, .ror, .inc, .dec] ∧ i.mode ≠ .accumulator) ∧
    (accessClass i = .accumulator ↔ i.mnemonic ∈ [.asl, .lsr, .rol, .ror] ∧ i.mode = .accumulator) ∧
    (accessClass i = .jump ↔ i.mnemonic ∈ [.jmp, .jsr]) ∧
    (accessClass i = .branch ↔ i.mnemonic ∈ [.bcc, .bcs, .beq, .bne, .bmi, .bpl, .bvc, .bvs]) ∧
    (accessClass i = .read → i.mode = .immediate →
      ∃ b, i.operand = .immediate b ∧ s.resolveInstr i = ({ ea := none, value := some b }, s)) ∧
    (accessClass i = .accumulator → s.resolveInstr i = ({ ea := none, value := some s.a }, s)) ∧
    (accessClass i ∈ [.read, .readModifyWrite] → i.mode ≠ .immediate →
      ∃ o, i.operand = .memory o ∧ (s.resolveInstr i).1 =
        { ea := some (s.effectiveAddress o).1, value := some ((s.effectiveAddress o).2.bus.answer (s.effectiveAddress o).1) }) ∧
    (accessClass i = .write → ∃ o, i.operand = .memory o ∧
      s.resolveInstr i = ({ ea := some (s.effectiveAddress o).1, value := none }, (s.effectiveAddress o).2)) ∧
    (accessClass i ∈ [.jump, .branch, .implied] → (s.resolveInstr i).1.value = none) ∧
    (accessClass i = .implied → i.mode = .implied ∧ s.resolveInstr i = ({ ea := none, value := none }, s))

/-- withCarry sets bit 0 to c, withZero bit 1 to (v = 0), withNegative bit 7 to bit 7 of v, withOverflow bit 6 to the signed-overflow rule, withInterruptDisable bit 2, setFlag the bit of its flag's mask (C 0, Z 1, I 2, D 3, V 6, N 7), setNZ bits 1 and 7; every other bit is that of the status before. -/
def Obligations.FlagPrimitivesBitByBit : Prop :=
  ∀ (p v a b r : Byte) (c : Bool) (j : Nat), j < 8 →
    ((withCarry p c).getLsbD j = if j = 0 then c else p.getLsbD j) ∧
    ((withZero p v).getLsbD j = if j = 1 then decide (v = 0#8) else p.getLsbD j) ∧
    ((withNegative p v).getLsbD j = if j = 7 then v.getLsbD 7 else p.getLsbD j) ∧
    ((withOverflow p a b r).getLsbD j =
      if j = 6 then (a.getLsbD 7 == b.getLsbD 7 && r.getLsbD 7 != a.getLsbD 7) else p.getLsbD j) ∧
    ((withInterruptDisable p c).getLsbD j = if j = 2 then c else p.getLsbD j) ∧
    ((setNZ p v).getLsbD j =
      if j = 1 then decide (v = 0#8) else if j = 7 then v.getLsbD 7 else p.getLsbD j) ∧
    (∀ fk ∈ [(Flag.carry, 0), (Flag.zero, 1), (Flag.interruptDisable, 2), (Flag.decimal, 3), (Flag.overflow, 6),
        (Flag.negative, 7)],
      ((setFlag p fk.1 c).getLsbD j = if j = fk.2 then c else p.getLsbD j) ∧ testFlag p fk.1 = p.getLsbD fk.2)

/-- For every state and byte v, writing P stores (v AND 0xCF) OR 0x20, and P reads so at all times; the copy pushed by BRK and PHP has bits 5 and 4 set and the copy pushed by IRQ and NMI bit 5 set and bit 4 clear, with the other six bits those of P. -/
def Obligations.StatusBitsFourAndFiveAreFixed : Prop :=
  (∀ (s : State) (v : Byte), (s.setP v).p = (v &&& 0xCF#8) ||| 0x20#8 ∧ (s.setP v).status = (v &&& 0xCF#8) ||| 0x20#8) ∧
  (∀ (s : State) (brk : Bool) (j : Nat), j < 8 →
    s.status.getLsbD 5 = true ∧ s.status.getLsbD 4 = false ∧
    (pushedP s.status brk).getLsbD j = if j = 5 then true else if j = 4 then brk else s.status.getLsbD j)

/-- From any state, reset reads 0xFFFC and then 0xFFFD, sets PC to the little-endian word they answer, SP to 0xFD and P to 0x24, leaves A, X and Y as registers nothing has written, and changes no byte of memory and not the map; it gives no StepResult. -/
def Obligations.ResetReadsTheVectorAndSetsTheRegisters : Prop :=
  ∀ s : State, ∃ lo hi : Byte,
    s.hostReset.bus.log = [.read 0xFFFC#16 lo, .read 0xFFFD#16 hi] ∧ s.hostReset.pc.toNat = 256 * hi.toNat + lo.toNat ∧
    (s.bus.kindAt 0xFFFC#16 ≠ .device → lo = s.byteAt 0xFFFC#16) ∧
    (s.bus.kindAt 0xFFFD#16 ≠ .device → hi = s.byteAt 0xFFFD#16) ∧
    s.hostReset.sp = 0xFD#8 ∧ s.hostReset.p = 0x24#8 ∧
    s.hostReset.aWritten = false ∧ s.hostReset.xWritten = false ∧ s.hostReset.yWritten = false ∧
    s.hostReset.result = none ∧ SameMemory s s.hostReset

/-- State.reset is what reset makes of the model's power-on bus: memory with nothing listed, all of it answered by memory, so that PC is 0x0000. That A, X and Y hold 0x00 and that an unlisted byte reads as 0x00 are the model's choices, log entries 1 and 3. -/
def Obligations.ResetStateOfTheModel : Prop :=
  State.reset = launch { mem := [], regions := [], seen := [], log := [] } ∧
  State.reset.a = 0#8 ∧ State.reset.x = 0#8 ∧ State.reset.y = 0#8 ∧ State.reset.pc = 0#16 ∧
  State.reset.flag .interruptDisable = true ∧ State.reset.flag .decimal = false ∧ ∀ c, State.reset.byteAt c = 0#8

/-- After reset memory stands in its canonical form, and P holds bit 4 as 0 and bit 5 as 1. -/
def Obligations.InvariantHoldsAtReset : Prop :=
  State.reset.Inv

/-- If in s memory stands in its canonical form (rising addresses below 65 536, no entry equal to what an unlisted address reads as) and P holds B as 0 and U as 1, and step s answers a next state t, then all of it holds in t. -/
def Obligations.StepKeepsTheInvariant : Prop :=
  ∀ s t : State, s.Inv → step s = .next t → t.Inv

/-- From the launch of any bus whose memory is canonical, through any steps, resets, IRQs, NMIs and bus updates with canonical memory, memory stays canonical and P holds B as 0 and U as 1. -/
def Obligations.ReachableStatesHaveTheInvariant : Prop :=
  ∀ s : State, Reachable s → s.Inv

/-- Over all 151 instructions: A is unchanged but by ADC, SBC, AND, ORA, EOR, LDA, PLA, TXA, TYA and the Accumulator-mode shifts; X but by LDX, TAX, TSX, INX, DEX; Y but by LDY, TAY, INY, DEY; SP but by the pushes and pulls and TXS; and no instruction changes the platform's map, which is no rule of the spec but the model's choice, log entry 4. -/
def Obligations.OnlyTheListedInstructionsWriteEachRegister : Prop :=
  ∀ (i : Instr) (s t : State), exec i s = .next t →
    (¬ writesA i → SameA s t) ∧
    (i.mnemonic ∉ [.ldx, .tax, .tsx, .inx, .dex] → SameX s t) ∧
    (i.mnemonic ∉ [.ldy, .tay, .iny, .dey] → SameY s t) ∧
    (i.mnemonic ∉ [.brk, .jsr, .rts, .rti, .pha, .php, .pla, .plp, .txs] → t.sp = s.sp) ∧
    t.bus.regions = s.bus.regions

/-- Over all 151 instructions: C, Z, I, D, V and N are each unchanged but by the mnemonics that the table of flags written by each mnemonic (which the spec marks as derived from its instruction rules) gives them, and an instruction in none of those columns leaves P as it is. -/
def Obligations.OnlyTheListedInstructionsWriteEachFlag : Prop :=
  ∀ (i : Instr) (s t : State), exec i s = .next t →
    (∀ f : Flag, i.mnemonic ∉ flagWriters f → t.flag f = s.flag f) ∧
    ((∀ f : Flag, i.mnemonic ∉ flagWriters f) → t.p = s.p)

/-- If an instruction is not in the table of readers of A (X, Y), then putting any other value into A (X, Y) before it changes nothing after it but that register, which then holds the other value or, where the instruction writes it, the same. -/
def Obligations.UnreadRegistersDoNotMatter : Prop :=
  ∀ (i : Instr) (s : State) (v : Byte), ∃ t : State, exec i s = .next t ∧
    (¬ readsA i → ∃ w, exec i (withA s v) = .next (withA t w) ∧ (w = t.a ∨ (w = v ∧ SameA s t))) ∧
    (¬ readsX i → ∃ w, exec i (withX s v) = .next (withX t w) ∧ (w = t.x ∨ (w = v ∧ SameX s t))) ∧
    (¬ readsY i → ∃ w, exec i (withY s v) = .next (withY t w) ∧ (w = t.y ∨ (w = v ∧ SameY s t)))

/-- Over all 151 instructions: every byte of memory outside the addresses the instruction stores to reads as before: the resolver's effective address for STA, STX, STY, INC, DEC and the memory-mode shifts, the stack byte at SP for PHA and PHP, two for JSR and three for BRK, and none for any other instruction; and the fetch changes no byte of memory and not the platform's map. That an access at an address the platform answers leaves the bytes that memory answers, and that no access changes the map, is the model's choice, log entry 4. -/
def Obligations.MemoryChangesOnlyWhereAnInstructionStores : Prop :=
  (∀ (i : Instr) (s t : State), exec i s = .next t → ∀ c : Addr, c ∉ storedAddresses s i → t.byteAt c = s.byteAt c) ∧
  (∀ (i : Instr) (s u : State), s.fetch = .ok (i, u) → SameMemory s u)

/-- In each of its eight modes ADC completes with A = (A + M + C) mod 256, C set iff the sum is 256 or more, V set iff A and M have the same sign and the result another, Z and N from the result; I, D, X, Y, SP and memory are unchanged and only the operand is read. -/
def Obligations.AdcAddsWithCarry : Prop :=
  ∀ (i : Instr) (s : State), i.mnemonic = .adc →
    (i.opcode, i.mode) ∈ opcodeRow i.mnemonic ∧
    Completes i s fun t => ∃ m, ReadsOperand i s t m ∧ AddsToA s t m

/-- In each of its eight modes SBC completes as the addition of M XOR 0xFF (the spec's decision D14): A = (A - M - (1 - C)) mod 256, C set iff A >= M + (1 - C) unsigned, V set iff the signed difference lies outside -128 to 127, Z and N from the result; all else is unchanged and only the operand is read. -/
def Obligations.SbcSubtractsWithBorrow : Prop :=
  ∀ (i : Instr) (s : State), i.mnemonic = .sbc →
    (i.opcode, i.mode) ∈ opcodeRow i.mnemonic ∧
    Completes i s fun t => ∃ m, ReadsOperand i s t m ∧ AddsToA s t (m ^^^ 0xFF#8) ∧
      (t.a.toNat : Int) = ((s.a.toNat : Int) - m.toNat - (1 - (s.flag .carry).toNat)) % 256 ∧
      t.flag .carry = decide (m.toNat + (1 - (s.flag .carry).toNat) ≤ s.a.toNat) ∧
      t.flag .overflow =
        decide (s.a.toInt - m.toInt - (1 - ((s.flag .carry).toNat : Int)) < -128 ∨
          127 < s.a.toInt - m.toInt - (1 - ((s.flag .carry).toNat : Int)))

/-- Two states that differ only in P, with the same carry: ADC or SBC leaves the same A and the same C, V, Z and N in both, and leaves D as it was in each. -/
def Obligations.DecimalModeHasNoArithmeticEffect : Prop :=
  ∀ (i : Instr) (s : State) (p : Byte), i.mnemonic ∈ [.adc, .sbc] → (s.setP p).flag .carry = s.flag .carry →
    ∃ t u : State, exec i s = .next t ∧ exec i (s.setP p) = .next u ∧ u.a = t.a ∧
      (∀ f ∈ [Flag.carry, .overflow, .zero, .negative], u.flag f = t.flag f) ∧
      t.flag .decimal = s.flag .decimal ∧ u.flag .decimal = (s.setP p).flag .decimal

/-- In each of their eight modes AND, ORA and EOR complete with A = A and M, A or M, A exclusive-or M, Z and N from the result; C, V, I, D, X, Y, SP and memory are unchanged and only the operand is read. -/
def Obligations.LogicalInstructionsCombineIntoA : Prop :=
  ∀ (i : Instr) (s : State) (f : Byte → Byte → Byte),
    (i.mnemonic, f) = (.and, fun a m => a &&& m) ∨ (i.mnemonic, f) = (.ora, fun a m => a ||| m) ∨
      (i.mnemonic, f) = (.eor, fun a m => a ^^^ m) →
    (i.opcode, i.mode) ∈ opcodeRow i.mnemonic ∧
    Completes i s fun t => ∃ m, ReadsOperand i s t m ∧ WroteA (f s.a m) t ∧ NZOf (f s.a m) t ∧
      SameFlagsBut [.zero, .negative] s t ∧ SameX s t ∧ SameY s t ∧ t.sp = s.sp

/-- In its two modes BIT completes with N = M[7], V = M[6], Z = ((A AND M) = 0); A, X, Y, SP, C, I, D and memory are unchanged and only the operand is read. -/
def Obligations.BitTestsMemoryAndKeepsA : Prop :=
  ∀ (i : Instr) (s : State), i.mnemonic = .bit →
    (i.opcode, i.mode) ∈ opcodeRow i.mnemonic ∧
    Completes i s fun t => ∃ m, ReadsOperand i s t m ∧ t.flag .negative = m.getLsbD 7 ∧ t.flag .overflow = m.getLsbD 6 ∧
      t.flag .zero = decide (s.a &&& m = 0#8) ∧ SameFlagsBut [.zero, .negative, .overflow] s t ∧ SameRegisters s t

/-- In each of their five modes ASL and LSR complete with r = 2M mod 256 and C = M[7], or r = M/2 and C = M[0] (N is then 0), stored to A in Accumulator mode and else written once to the address read; Z and N from r; V, I, D and all else are unchanged. -/
def Obligations.ShiftsMoveOneBitIntoCarry : Prop :=
  ∀ (i : Instr) (s : State),
    (i.mnemonic = .asl →
      (i.opcode, i.mode) ∈ opcodeRow i.mnemonic ∧
      Completes i s fun t => ∃ m r : Byte, Modifies i s t m r ∧ r.toNat = 2 * m.toNat % 256 ∧
        t.flag .carry = m.getLsbD 7 ∧ NZOf r t ∧ SameFlagsBut [.carry, .zero, .negative] s t) ∧
    (i.mnemonic = .lsr →
      (i.opcode, i.mode) ∈ opcodeRow i.mnemonic ∧
      Completes i s fun t => ∃ m r : Byte, Modifies i s t m r ∧ r.toNat = m.toNat / 2 ∧
        t.flag .carry = m.getLsbD 0 ∧ NZOf r t ∧ t.flag .negative = false ∧ SameFlagsBut [.carry, .zero, .negative] s t)

/-- In each of their five modes ROL and ROR complete with r = (2M + C) mod 256 and C = M[7], or r = M/2 + 128C and C = M[0], with C the value before the instruction, stored to A in Accumulator mode and else written once to the address read; Z and N from r; all else is unchanged. -/
def Obligations.RotatesGoThroughCarry : Prop :=
  ∀ (i : Instr) (s : State),
    (i.mnemonic = .rol →
      (i.opcode, i.mode) ∈ opcodeRow i.mnemonic ∧
      Completes i s fun t => ∃ m r : Byte, Modifies i s t m r ∧ r.toNat = (2 * m.toNat + (s.flag .carry).toNat) % 256 ∧
        t.flag .carry = m.getLsbD 7 ∧ NZOf r t ∧ SameFlagsBut [.carry, .zero, .negative] s t) ∧
    (i.mnemonic = .ror →
      (i.opcode, i.mode) ∈ opcodeRow i.mnemonic ∧
      Completes i s fun t => ∃ m r : Byte, Modifies i s t m r ∧ r.toNat = m.toNat / 2 + 128 * (s.flag .carry).toNat ∧
        t.flag .carry = m.getLsbD 0 ∧ NZOf r t ∧ SameFlagsBut [.carry, .zero, .negative] s t)

/-- CMP compares A, CPX X and CPY Y with M in each of their modes: C = (register >= M), Z = (register = M), N = bit 7 of the difference modulo 256; the register, V, I, D, the carry-in and all else play no part or are unchanged. -/
def Obligations.ComparesSetFlagsAndKeepTheRegister : Prop :=
  ∀ (i : Instr) (s : State) (reg : Byte),
    (i.mnemonic, reg) = (.cmp, s.a) ∨ (i.mnemonic, reg) = (.cpx, s.x) ∨ (i.mnemonic, reg) = (.cpy, s.y) →
    (i.opcode, i.mode) ∈ opcodeRow i.mnemonic ∧
    Completes i s fun t => ∃ m, ReadsOperand i s t m ∧ Compares s t reg m

/-- BCC and BCS test C, BNE and BEQ Z, BPL and BMI N, BVC and BVS V. When the condition holds PC becomes PC + 2 plus the sign-extended operand byte, modulo 65 536, and the StepResult is (2, true); when it does not, PC becomes PC + 2 and the StepResult is (2, false). No flag, register or memory changes and the bus is not accessed. -/
def Obligations.BranchesTestOneFlag : Prop :=
  ∀ (s : State) (rel : Byte),
    Branches (.bcc rel) 0x90#8 rel (!s.flag .carry) s ∧ Branches (.bcs rel) 0xB0#8 rel (s.flag .carry) s ∧
    Branches (.beq rel) 0xF0#8 rel (s.flag .zero) s ∧ Branches (.bne rel) 0xD0#8 rel (!s.flag .zero) s ∧
    Branches (.bmi rel) 0x30#8 rel (s.flag .negative) s ∧ Branches (.bpl rel) 0x10#8 rel (!s.flag .negative) s ∧
    Branches (.bvc rel) 0x50#8 rel (!s.flag .overflow) s ∧ Branches (.bvs rel) 0x70#8 rel (s.flag .overflow) s ∧
    (s.resolve .branch (.relative rel)).2 = s ∧
    ∃ target, (s.resolve .branch (.relative rel)).1 = { ea := some target, value := none } ∧
      (target.toNat : Int) = ((s.pc.toNat : Int) + 2 + rel.toInt) % 65536

/-- BRK completes with the StepResult (1, true): it writes the high byte and the low byte of PC + 2 (modulo 65 536) and P OR 0x30 to the three stack bytes from SP down, reads 0xFFFE and then 0xFFFF, and PC is that little-endian word; SP is 3 less modulo 256, I is 1, and C, Z, D, V, N, A, X, Y and every other byte are unchanged. (The completion of BRK is the spec's decision D10.) -/
def Obligations.BrkEntersThroughTheVector : Prop :=
  ∀ s : State, Instr.brk.opcode = 0x00#8 ∧ Instr.brk.mode = .implied ∧ Completes .brk s fun t =>
    Enters s t 0xFFFE#16 (s.pc + 2) (s.status ||| 0x30#8) ∧ t.result = some { length := 1, jumped := true }

/-- JSR completes with PC = addr16 and the StepResult (3, true); it writes the high byte of PC + 2 to the stack byte at SP and the low byte to the next one down, SP is 2 less modulo 256, and A, X, Y, P and every other byte are unchanged; nothing is read at the target. -/
def Obligations.JsrPushesItsLastAddressAndJumps : Prop :=
  ∀ (s : State) (addr : Addr), (Instr.jsr addr).opcode = 0x20#8 ∧ (Instr.jsr addr).mode = .absolute ∧
    Completes (.jsr addr) s fun t =>
      JumpsTo (.jsr addr) addr t ∧ t.sp.toNat = (s.sp.toNat + 254) % 256 ∧ t.p = s.p ∧
      SameA s t ∧ SameX s t ∧ SameY s t ∧
      t.bus = (s.bus.writeByte (stackBelow s 0) ((s.pc + 2).extractLsb' 8 8)).writeByte (stackBelow s 1)
        ((s.pc + 2).extractLsb' 0 8) ∧
      (∀ c, c ≠ stackBelow s 0 → c ≠ stackBelow s 1 → t.byteAt c = s.byteAt c) ∧
      (s.bus.kindAt (stackBelow s 0) = .ram → t.byteAt (stackBelow s 0) = (s.pc + 2).extractLsb' 8 8) ∧
      (s.bus.kindAt (stackBelow s 1) = .ram → t.byteAt (stackBelow s 1) = (s.pc + 2).extractLsb' 0 8)

/-- RTS completes with the StepResult (1, true): it reads the two stack bytes above SP, low byte first, PC is the word plus 1 modulo 65 536, SP is 2 more modulo 256, and A, X, Y, P and memory are unchanged. -/
def Obligations.RtsReturnsPastThePulledAddress : Prop :=
  ∀ s : State, Instr.rts.opcode = 0x60#8 ∧ Completes .rts s fun t =>
    let b := (s.bus.readByte (stackAbove s 1)).2
    t.pc.toNat = (256 * (b.answer (stackAbove s 2)).toNat + (s.bus.answer (stackAbove s 1)).toNat + 1) % 65536 ∧
    t.bus = (b.readByte (stackAbove s 2)).2 ∧ t.sp.toNat = (s.sp.toNat + 2) % 256 ∧
    t.result = some { length := 1, jumped := true } ∧
    t.p = s.p ∧ SameA s t ∧ SameX s t ∧ SameY s t ∧ SameMemory s t

/-- RTI completes with the StepResult (1, true): it reads the three stack bytes above SP; P is the first AND 0xCF OR 0x20, PC the word of the other two, SP 3 more modulo 256, and A, X, Y and memory are unchanged. -/
def Obligations.RtiRestoresStatusAndPc : Prop :=
  ∀ s : State, Instr.rti.opcode = 0x40#8 ∧ Completes .rti s fun t =>
    let b := (s.bus.readByte (stackAbove s 1)).2
    let c := (b.readByte (stackAbove s 2)).2
    t.p = (s.bus.answer (stackAbove s 1) &&& 0xCF#8) ||| 0x20#8 ∧
    t.pc.toNat = 256 * (c.answer (stackAbove s 3)).toNat + (b.answer (stackAbove s 2)).toNat ∧
    t.bus = (c.readByte (stackAbove s 3)).2 ∧ t.sp.toNat = (s.sp.toNat + 3) % 256 ∧
    t.result = some { length := 1, jumped := true } ∧ SameA s t ∧ SameX s t ∧ SameY s t ∧ SameMemory s t

/-- JMP Absolute completes with PC = addr16 and no access; JMP Indirect reads the low byte at ptr and the high byte at the next address of ptr's page (0x3000 after 0x30FF), and PC is that word; both give the StepResult (3, true) and change no register, flag or byte. -/
def Obligations.JmpTakesTheTargetWithThePageWrapBug : Prop :=
  ∀ (s : State) (addr : Addr),
    ((Instr.jmpAbs addr).opcode = 0x4C#8 ∧ Completes (.jmpAbs addr) s fun t =>
      JumpsTo (.jmpAbs addr) addr t ∧ SameRegisters s t ∧ t.p = s.p ∧ SameBus s t) ∧
    ((Instr.jmpInd addr).opcode = 0x6C#8 ∧ Completes (.jmpInd addr) s fun t =>
      ∃ h target : Addr, h.toNat = 256 * (addr.toNat / 256) + (addr.toNat + 1) % 256 ∧
        target.toNat = 256 * ((s.bus.readByte addr).2.answer h).toNat + (s.bus.answer addr).toNat ∧
        t.bus = ((s.bus.readByte addr).2.readByte h).2 ∧
        JumpsTo (.jmpInd addr) target t ∧ SameRegisters s t ∧ t.p = s.p ∧ SameMemory s t)

/-- PHA and PHP complete with the StepResult (1, false): one write at the stack byte of SP, of A or of P OR 0x30; SP is one less modulo 256 (0xFF after 0x00); A, X, Y, P and every other byte are unchanged. -/
def Obligations.PushesStoreAAndStatus : Prop :=
  ∀ s : State,
    (Instr.pha.opcode = 0x48#8 ∧ Completes .pha s fun t =>
      t.bus = s.bus.writeByte (stackBelow s 0) s.a ∧ StoredAt (stackBelow s 0) s.a s t ∧
      t.sp.toNat = (s.sp.toNat + 255) % 256 ∧ FallsThrough .pha s t ∧ t.p = s.p ∧ SameA s t ∧ SameX s t ∧ SameY s t) ∧
    (Instr.php.opcode = 0x08#8 ∧ Completes .php s fun t =>
      t.bus = s.bus.writeByte (stackBelow s 0) (s.status ||| 0x30#8) ∧ StoredAt (stackBelow s 0) (s.status ||| 0x30#8) s t ∧
      t.sp.toNat = (s.sp.toNat + 255) % 256 ∧ FallsThrough .php s t ∧ t.p = s.p ∧ SameA s t ∧ SameX s t ∧ SameY s t)

/-- PLA and PLP complete with the StepResult (1, false): one read at the stack byte above SP (0x0100 after SP = 0xFF). PLA writes it to A, with Z and N from it; PLP writes it AND 0xCF OR 0x20 to P. SP is one more modulo 256; all else is unchanged. -/
def Obligations.PullsLoadAAndStatus : Prop :=
  ∀ s : State,
    (Instr.pla.opcode = 0x68#8 ∧ Completes .pla s fun t =>
      WroteA (s.bus.answer (stackAbove s 1)) t ∧ NZOf (s.bus.answer (stackAbove s 1)) t ∧
      SameFlagsBut [.zero, .negative] s t ∧ t.bus = (s.bus.readByte (stackAbove s 1)).2 ∧
      t.sp.toNat = (s.sp.toNat + 1) % 256 ∧ FallsThrough .pla s t ∧ SameX s t ∧ SameY s t ∧ SameMemory s t) ∧
    (Instr.plp.opcode = 0x28#8 ∧ Completes .plp s fun t =>
      t.p = (s.bus.answer (stackAbove s 1) &&& 0xCF#8) ||| 0x20#8 ∧ t.bus = (s.bus.readByte (stackAbove s 1)).2 ∧
      t.sp.toNat = (s.sp.toNat + 1) % 256 ∧ FallsThrough .plp s t ∧ SameA s t ∧ SameX s t ∧ SameY s t ∧ SameMemory s t)

/-- For every state and byte: Push makes one write at 0x0100 + SP and SP is one less modulo 256; Pull makes one read at 0x0100 + (SP + 1 mod 256) and SP is one more; each address lies in 0x0100 to 0x01FF, and no other register changes. At SP = 0x00 a push writes 0x0100 and leaves 0xFF. -/
def Obligations.PushAndPullStayInPageOne : Prop :=
  (∀ (s : State) (v : Byte),
    (stackAddr s.sp).toNat = 256 + s.sp.toNat ∧
    (s.push v).bus = s.bus.writeByte (stackBelow s 0) v ∧ (s.push v).sp.toNat = (s.sp.toNat + 255) % 256 ∧
    s.push v = (s.setBus (s.push v).bus).setSP (s.push v).sp ∧
    s.pull.1 = s.bus.answer (stackAbove s 1) ∧ s.pull.2.bus = (s.bus.readByte (stackAbove s 1)).2 ∧
    s.pull.2.sp.toNat = (s.sp.toNat + 1) % 256 ∧ s.pull.2 = (s.setBus s.pull.2.bus).setSP s.pull.2.sp) ∧
  (∀ (s : State) (k : Nat), k ≤ 256 →
    0x0100 ≤ (stackBelow s k).toNat ∧ (stackBelow s k).toNat ≤ 0x01FF ∧
    0x0100 ≤ (stackAbove s k).toNat ∧ (stackAbove s k).toNat ≤ 0x01FF) ∧
  (∀ s : State, s.sp = 0#8 → stackBelow s 0 = 0x0100#16)

/-- Where memory takes writes at the two stack bytes: after a 16-bit value is pushed, its high byte stands at the stack byte of the old SP and its low byte at the next one down, and pulling a word then gives the value and the old SP. (The order is the spec's decision D8 and D10.) -/
def Obligations.PushedWordIsLittleEndianAndPullsBack : Prop :=
  ∀ (s : State) (v : Addr), s.bus.kindAt (stackBelow s 0) = .ram → s.bus.kindAt (stackBelow s 1) = .ram →
    (s.pushWord v).byteAt (stackBelow s 0) = v.extractLsb' 8 8 ∧ (s.pushWord v).byteAt (stackBelow s 1) = v.extractLsb' 0 8 ∧
    (s.pushWord v).pullWord.1 = v ∧ (s.pushWord v).pullWord.2.sp = s.sp

/-- Where memory takes writes at the two stack bytes: JSR at PC and then RTS leave PC three past the JSR, modulo 65 536, and SP, A, X, Y and P as they were. The spec states it as an inference: 'JSR followed by RTS returns to the instruction after the JSR'. -/
def Obligations.RtsAfterJsrGoesToTheNextInstruction : Prop :=
  ∀ (s : State) (addr : Addr), s.bus.kindAt (stackBelow s 0) = .ram → s.bus.kindAt (stackBelow s 1) = .ram →
    ∃ t u : State, exec (.jsr addr) s = .next t ∧ exec .rts t = .next u ∧
      u.pc.toNat = (s.pc.toNat + 3) % 65536 ∧ SameRegisters s u ∧ u.p = s.p

/-- Where memory takes writes at the three stack bytes: BRK at PC and then RTI leave PC two past the BRK, modulo 65 536, P as it read before (so that I is again what it was), and SP, A, X and Y as they were. -/
def Obligations.RtiAfterBrkRestoresStatusAndSkipsAByte : Prop :=
  ∀ s : State, s.bus.kindAt (stackBelow s 0) = .ram → s.bus.kindAt (stackBelow s 1) = .ram →
    s.bus.kindAt (stackBelow s 2) = .ram →
    ∃ t u : State, exec .brk s = .next t ∧ exec .rti t = .next u ∧
      u.pc.toNat = (s.pc.toNat + 2) % 65536 ∧ SameRegisters s u ∧ u.status = s.status

/-- Each completes with its register one more or one less modulo 256 and Z and N from the new value; C, V, I, D, the other registers and memory are unchanged, and the bus is not accessed. -/
def Obligations.IncrementsAndDecrementsWrap : Prop :=
  ∀ s : State,
    (Instr.inx.opcode = 0xE8#8 ∧ Completes .inx s fun t => t.x.toNat = (s.x.toNat + 1) % 256 ∧ t.xWritten = true ∧
      NZOf t.x t ∧ SameFlagsBut [.zero, .negative] s t ∧ SameA s t ∧ SameY s t ∧ t.sp = s.sp ∧ SameBus s t ∧
      FallsThrough .inx s t) ∧
    (Instr.iny.opcode = 0xC8#8 ∧ Completes .iny s fun t => t.y.toNat = (s.y.toNat + 1) % 256 ∧ t.yWritten = true ∧
      NZOf t.y t ∧ SameFlagsBut [.zero, .negative] s t ∧ SameA s t ∧ SameX s t ∧ t.sp = s.sp ∧ SameBus s t ∧
      FallsThrough .iny s t) ∧
    (Instr.dex.opcode = 0xCA#8 ∧ Completes .dex s fun t => t.x.toNat = (s.x.toNat + 255) % 256 ∧ t.xWritten = true ∧
      NZOf t.x t ∧ SameFlagsBut [.zero, .negative] s t ∧ SameA s t ∧ SameY s t ∧ t.sp = s.sp ∧ SameBus s t ∧
      FallsThrough .dex s t) ∧
    (Instr.dey.opcode = 0x88#8 ∧ Completes .dey s fun t => t.y.toNat = (s.y.toNat + 255) % 256 ∧ t.yWritten = true ∧
      NZOf t.y t ∧ SameFlagsBut [.zero, .negative] s t ∧ SameA s t ∧ SameX s t ∧ t.sp = s.sp ∧ SameBus s t ∧
      FallsThrough .dey s t)

/-- Each completes with its flag 0 or 1 as its name says, every other flag and A, X, Y, SP unchanged, PC one further, and no bus access. -/
def Obligations.FlagInstructionsWriteOneFlag : Prop :=
  ∀ s : State,
    WritesFlag .clc 0x18#8 .carry false s ∧ WritesFlag .sec 0x38#8 .carry true s ∧
    WritesFlag .cli 0x58#8 .interruptDisable false s ∧ WritesFlag .sei 0x78#8 .interruptDisable true s ∧
    WritesFlag .cld 0xD8#8 .decimal false s ∧ WritesFlag .sed 0xF8#8 .decimal true s ∧
    WritesFlag .clv 0xB8#8 .overflow false s

/-- Each completes with the destination equal to the source and the source unchanged; all but TXS set Z and N from the value and leave the other flags; TXS leaves all of P; nothing else changes and the bus is not accessed. -/
def Obligations.TransfersCopyARegister : Prop :=
  ∀ s : State,
    (Instr.tax.opcode = 0xAA#8 ∧ Completes .tax s fun t => WroteX s.a t ∧ NZOf s.a t ∧ SameFlagsBut [.zero, .negative] s t ∧
      SameA s t ∧ SameY s t ∧ t.sp = s.sp ∧ SameBus s t ∧ FallsThrough .tax s t) ∧
    (Instr.tay.opcode = 0xA8#8 ∧ Completes .tay s fun t => WroteY s.a t ∧ NZOf s.a t ∧ SameFlagsBut [.zero, .negative] s t ∧
      SameA s t ∧ SameX s t ∧ t.sp = s.sp ∧ SameBus s t ∧ FallsThrough .tay s t) ∧
    (Instr.txa.opcode = 0x8A#8 ∧ Completes .txa s fun t => WroteA s.x t ∧ NZOf s.x t ∧ SameFlagsBut [.zero, .negative] s t ∧
      SameX s t ∧ SameY s t ∧ t.sp = s.sp ∧ SameBus s t ∧ FallsThrough .txa s t) ∧
    (Instr.tya.opcode = 0x98#8 ∧ Completes .tya s fun t => WroteA s.y t ∧ NZOf s.y t ∧ SameFlagsBut [.zero, .negative] s t ∧
      SameX s t ∧ SameY s t ∧ t.sp = s.sp ∧ SameBus s t ∧ FallsThrough .tya s t) ∧
    (Instr.tsx.opcode = 0xBA#8 ∧ Completes .tsx s fun t => WroteX s.sp t ∧ NZOf s.sp t ∧ SameFlagsBut [.zero, .negative] s t ∧
      SameA s t ∧ SameY s t ∧ t.sp = s.sp ∧ SameBus s t ∧ FallsThrough .tsx s t) ∧
    (Instr.txs.opcode = 0x9A#8 ∧ Completes .txs s fun t => t.sp = s.x ∧ t.p = s.p ∧
      SameA s t ∧ SameX s t ∧ SameY s t ∧ SameBus s t ∧ FallsThrough .txs s t)

/-- NOP completes in the state before it with PC one further, modulo 65 536, and the StepResult (1, false). -/
def Obligations.NopMovesPcAlone : Prop :=
  ∀ s : State, Instr.nop.opcode = 0xEA#8 ∧
    exec .nop s = .next { s with pc := s.pc + 1, result := some { length := 1, jumped := false } }

/-- In each of their modes the loads complete with the register equal to M and Z and N from M; C, V, I, D, the other registers and memory are unchanged and only the operand is read. -/
def Obligations.LoadsWriteTheRegister : Prop :=
  ∀ (i : Instr) (s : State), i.mnemonic ∈ [.lda, .ldx, .ldy] →
    (i.opcode, i.mode) ∈ opcodeRow i.mnemonic ∧
    Completes i s fun t => ∃ m, ReadsOperand i s t m ∧ NZOf m t ∧ SameFlagsBut [.zero, .negative] s t ∧ t.sp = s.sp ∧
      (i.mnemonic = .lda → WroteA m t ∧ SameX s t ∧ SameY s t) ∧
      (i.mnemonic = .ldx → WroteX m t ∧ SameA s t ∧ SameY s t) ∧
      (i.mnemonic = .ldy → WroteY m t ∧ SameA s t ∧ SameX s t)

/-- In each of their modes the stores complete after one write of A, X or Y at the effective address the resolver gives; memory that takes it holds it, every other byte is unchanged, and A, X, Y, SP and P are unchanged. -/
def Obligations.StoresWriteOneByteAndReadNone : Prop :=
  ∀ (i : Instr) (s : State) (v : Byte),
    (i.mnemonic, v) = (.sta, s.a) ∨ (i.mnemonic, v) = (.stx, s.x) ∨ (i.mnemonic, v) = (.sty, s.y) →
    (i.opcode, i.mode) ∈ opcodeRow i.mnemonic ∧
    Completes i s fun t => ∃ ea, (s.resolveInstr i).1.ea = some ea ∧ t.bus = (s.resolveInstr i).2.bus.writeByte ea v ∧
      StoredAt ea v s t ∧ SameRegisters s t ∧ t.p = s.p ∧ FallsThrough i s t

/-- In each of their four modes INC and DEC complete after one read and one write at the effective address, of M + 1 or M - 1 modulo 256; Z and N follow the result; C, V, I, D, the registers and every other byte are unchanged. -/
def Obligations.IncAndDecModifyMemory : Prop :=
  ∀ (i : Instr) (s : State),
    (i.mnemonic = .inc →
      (i.opcode, i.mode) ∈ opcodeRow i.mnemonic ∧
      Completes i s fun t => ∃ m r : Byte, Modifies i s t m r ∧ SameA s t ∧ r.toNat = (m.toNat + 1) % 256 ∧ NZOf r t ∧
        SameFlagsBut [.zero, .negative] s t) ∧
    (i.mnemonic = .dec →
      (i.opcode, i.mode) ∈ opcodeRow i.mnemonic ∧
      Completes i s fun t => ∃ m r : Byte, Modifies i s t m r ∧ SameA s t ∧ r.toNat = (m.toNat + 255) % 256 ∧ NZOf r t ∧
        SameFlagsBut [.zero, .negative] s t)

/-- A write and a read change no byte of memory but the one written. Where memory takes writes, a read after a write answers the byte written; where it does not, the byte that stood there; where the platform answers, a free value of the address and of every access the platform has seen. Whatever states B and operations read and write of R60's form the platform has (view gives its state after the accesses seen), the model's read and write at its addresses are those. That memory stays outside the byte written, and the map, is the model's choice, log entry 4. -/
def Obligations.BusReadsAndWritesByKind : Prop :=
  (∀ (b : Bus) (c d : Addr) (v : Byte),
    (b.kindAt c = .ram → (b.writeByte c v).answer c = v ∧ (b.writeByte c v).seen = b.seen) ∧
    (b.kindAt c = .rom → (b.writeByte c v).answer c = Memory.read b.mem c ∧ b.answer c = Memory.read b.mem c ∧
      (b.writeByte c v).seen = .write c v :: b.seen) ∧
    (b.kindAt c ≠ .device → (b.readByte c).2.seen = b.seen) ∧
    (b.kindAt c = .device → b.answer c = Config.deviceByte b.seen c ∧
      (b.readByte c).2.seen = .read c (b.answer c) :: b.seen ∧ (b.writeByte c v).seen = .write c v :: b.seen ∧
      (b.writeByte c v).mem = b.mem) ∧
    (d ≠ c → Memory.read (b.writeByte c v).mem d = Memory.read b.mem d) ∧
    (b.readByte c).1 = b.answer c ∧ (b.readByte c).2.mem = b.mem ∧
    (b.readByte c).2.log = b.log ++ [.read c (b.answer c)] ∧ (b.writeByte c v).log = b.log ++ [.write c v] ∧
    (b.readByte c).2.regions = b.regions ∧ (b.writeByte c v).regions = b.regions) ∧
  (∀ (B : Type) (read : B → Addr → Byte × B) (write : B → Addr → Byte → B) (view : List Access → B),
    PlatformIs read write view → ∀ (b : Bus) (c : Addr) (v : Byte), b.kindAt c = .device →
      ((b.readByte c).1, view (b.readByte c).2.seen) = read (view b.seen) c ∧
      view (b.writeByte c v).seen = write (view b.seen) c v)

/-- For every state, vector, return address and kind: the entry writes ret's high byte, its low byte and the pushed copy of P, reads vec and vec + 1, sets I, and PC is that word; SP is 3 less; D and every other flag, A, X, Y and every other byte are unchanged. BRK is the entry through 0xFFFE with PC + 2 and B as 1, a taken IRQ through 0xFFFE and NMI through 0xFFFA with PC and B as 0. -/
def Obligations.SharedEntrySequence : Prop :=
  (∀ (s : State) (vec ret : Addr) (brk : Bool), Enters s (s.enter vec ret brk) vec ret (pushedP s.status brk)) ∧
  (∀ s : State,
    (∃ t, exec .brk s = .next t ∧ t.pc = (s.enter 0xFFFE#16 (s.pc + 2) true).pc ∧
      t.bus = (s.enter 0xFFFE#16 (s.pc + 2) true).bus ∧ t.p = (s.enter 0xFFFE#16 (s.pc + 2) true).p ∧
      t.sp = (s.enter 0xFFFE#16 (s.pc + 2) true).sp) ∧
    (s.flag .interruptDisable = false → s.irq.1 = { s.clearLog.enter 0xFFFE#16 s.pc false with result := none }) ∧
    s.nmi = { s.clearLog.enter 0xFFFA#16 s.pc false with result := none })

/-- With I = 1 an IRQ changes nothing and answers that it was not taken; with I = 0 it pushes PC and P (bit 5 set, bit 4 clear), sets I, loads PC from 0xFFFE/0xFFFF and answers that it was taken. An NMI does the same through 0xFFFA/0xFFFB whatever I is. Neither gives a StepResult. (Both are the spec's decision D15.) -/
def Obligations.IrqIsMaskedByIAndNmiIsNot : Prop :=
  ∀ s : State,
    (s.flag .interruptDisable = true → s.irq = (s, false)) ∧
    (s.flag .interruptDisable = false → s.irq.2 = true ∧ s.irq.1.result = none ∧
      Enters s.clearLog s.irq.1 0xFFFE#16 s.pc s.status) ∧
    s.nmi.result = none ∧ Enters s.clearLog s.nmi 0xFFFA#16 s.pc s.status

/-- Where memory takes writes at the three stack bytes: after an NMI, or an IRQ taken with I = 0, RTI gives back PC, P, SP, A, X and Y as they were at the interrupt; an IRQ is then taken exactly when the restored I is 0; and inside the handler an IRQ is not taken. -/
def Obligations.RtiAfterInterruptResumesTheProgram : Prop :=
  ∀ s : State, s.bus.kindAt (stackBelow s 0) = .ram → s.bus.kindAt (stackBelow s 1) = .ram →
    s.bus.kindAt (stackBelow s 2) = .ram →
    ∀ t : State, t = s.nmi ∨ (s.flag .interruptDisable = false ∧ t = s.irq.1) →
      t.irq.2 = false ∧
      ∃ u : State, exec .rti t = .next u ∧ u.pc = s.pc ∧ u.status = s.status ∧ SameRegisters s u ∧
        (u.irq.2 = true ↔ s.flag .interruptDisable = false)

/-- Let the fetch give an instruction. If it reads A and A is unwritten, checkedStep faults with UnwrittenRegister(A); else if it reads X and X is unwritten, with X; else if Y, with Y; and in every other case checkedStep is step. The readers are R307's table. (step itself runs on, log entry 2.) -/
def Obligations.CheckedStepStopsOnUnwrittenRegisters : Prop :=
  ∀ (s u : State) (i : Instr), s.fetch = .ok (i, u) →
    (readsA i ∧ s.aWritten = false → checkedStep s = .fault (.unwrittenRegister .a)) ∧
    (¬ (readsA i ∧ s.aWritten = false) → readsX i ∧ s.xWritten = false → checkedStep s = .fault (.unwrittenRegister .x)) ∧
    (¬ (readsA i ∧ s.aWritten = false) → ¬ (readsX i ∧ s.xWritten = false) → readsY i ∧ s.yWritten = false →
      checkedStep s = .fault (.unwrittenRegister .y)) ∧
    (¬ (readsA i ∧ s.aWritten = false) → ¬ (readsX i ∧ s.xWritten = false) → ¬ (readsY i ∧ s.yWritten = false) →
      checkedStep s = step s)

/-- Let two states agree on everything but the values of registers nothing has written since reset. If the checked step completes from one, it completes from the other, in states that agree in the same way: what checked runs show holds whatever A, X and Y hold at reset (log entry 1). -/
def Obligations.CheckedRunsDoNotSeeResetValues : Prop :=
  ∀ s s' t : State, AgreeOnWritten s s' → checkedStep s = .next t → ∃ t', checkedStep s' = .next t' ∧ AgreeOnWritten t t'

/-- For every list of host moves and every step function: at PC = stop the run ends normally, before any fetch; away from it the run makes the next move (a step, reset, irq, nmi or bus_update) and goes on in the state after it, ends with the fault in the state before it if the move faults, and is still going where no move is left. So a run that ends normally has PC = stop, one that faults is away from it at a step that gives that fault, and one still going is away from it. That PC is looked at before every move, and not before a step alone, is the model's choice, log entry 13. -/
def Obligations.RunsEndAtTheStopAddress : Prop :=
  ∀ (f : State → Out) (stop : Addr) (s : State),
    (s.pc = stop → ∀ ms, runMoves f stop ms s = .normal s) ∧
    (s.pc ≠ stop →
      runMoves f stop [] s = .stopped s ∧
      (∀ m ms t, hostMove f m s = .next t → runMoves f stop (m :: ms) s = runMoves f stop ms t) ∧
      (∀ m ms r, hostMove f m s = .fault r → runMoves f stop (m :: ms) s = .fault r s) ∧
      (∀ m ms r, hostMove f m s = .refused r → runMoves f stop (m :: ms) s = .refused r s)) ∧
    (hostMove f .step s = f s ∧ hostMove f .reset s = .next s.hostReset ∧ hostMove f .irq s = .next s.irq.1 ∧
      hostMove f .nmi s = .next s.nmi ∧ ∀ b, hostMove f (.busUpdate b) s = .next { s with bus := b }) ∧
    (∀ ms t, runMoves f stop ms s = .normal t → t.pc = stop) ∧
    (∀ ms r t, runMoves f stop ms s = .fault r t → t.pc ≠ stop ∧ f t = .fault r) ∧
    (∀ ms t, runMoves f stop ms s = .stopped t → t.pc ≠ stop) ∧
    (∀ n, runTo stop n s = runMoves step stop (List.replicate n .step) s)
end

