-- ==== Sys2Proof/Laws/Bits.lean ====
section
/-!
SUPPORT. The byte-order, extension and page helpers as numbers (spec/00_scope.md rule R13, 20_memory.md R66, R74).
-/

namespace Sys2Proof

/-- `hi ++ lo` is `hi * 256 + lo` (R13). -/
@[simp] theorem word_toNat (hi lo : Byte) : (word hi lo).toNat = 256 * hi.toNat + lo.toNat := by
  have h := lo.isLt
  rw [word, BitVec.toNat_append, ← Nat.shiftLeft_add_eq_or_of_lt (by simpa using h), Nat.shiftLeft_eq]
  omega

@[simp] theorem hiByte_toNat (v : Addr) : (hiByte v).toNat = v.toNat / 256 := by
  have h := v.isLt
  rw [hiByte, BitVec.extractLsb'_toNat, Nat.shiftRight_eq_div_pow]
  omega

@[simp] theorem loByte_toNat (v : Addr) : (loByte v).toNat = v.toNat % 256 := by
  rw [loByte, BitVec.extractLsb'_toNat, Nat.shiftRight_zero]

/-- A word is put together from its two bytes. -/
@[simp] theorem word_hiByte_loByte (v : Addr) : word (hiByte v) (loByte v) = v := by
  apply BitVec.eq_of_toNat_eq
  simp
  omega

@[simp] theorem zext16_toNat (v : Byte) : (zext16 v).toNat = v.toNat := by
  have h := v.isLt
  simp only [zext16, BitVec.toNat_setWidth]
  omega

/-- The bits of a word are those of its bytes. -/
theorem word_getLsbD (hi lo : Byte) (i : Nat) :
    (word hi lo).getLsbD i = if i < 8 then lo.getLsbD i else hi.getLsbD (i - 8) := BitVec.getLsbD_append

/-- Masking the two halves together is putting a word together from its bytes. -/
theorem mask_or_mask (p q : Addr) : (p &&& 0xFF00#16) ||| (q &&& 0x00FF#16) = word (hiByte p) (loByte q) := by
  apply BitVec.eq_of_getLsbD_eq
  intro i hi
  rw [word_getLsbD]
  interval_cases i <;> simp [hiByte, loByte]

/-- The second byte of a jump pointer stands in the pointer's own page (R148). -/
@[simp] theorem nextInPage_toNat (p : Addr) : (nextInPage p).toNat = 256 * (p.toNat / 256) + (p.toNat + 1) % 256 := by
  have hp := p.isLt
  rw [nextInPage, mask_or_mask, word_toNat, hiByte_toNat, loByte_toNat, BitVec.toNat_add]
  simp

namespace Machine

/-- A stack address is 0x0100 + SP (R25). -/
@[simp] theorem stackAddr_toNat (sp : Byte) : (stackAddr sp).toNat = 256 + sp.toNat := by
  have h : stackAddr sp = word 1#8 sp := by
    apply BitVec.eq_of_getLsbD_eq
    intro i hi
    rw [word_getLsbD]
    interval_cases i <;> simp [stackAddr, zext16]
  rw [h, word_toNat]
  simp

/-- Different stack pointers name different stack bytes. -/
theorem stackAddr_inj {a b : Byte} : stackAddr a = stackAddr b ↔ a = b := by
  constructor
  · intro h
    have := congrArg BitVec.toNat h
    simp only [stackAddr_toNat] at this
    exact BitVec.eq_of_toNat_eq (by omega)
  · rintro rfl; rfl

/-- A zero-page address after its index wraps in page zero (R74, R143). -/
@[simp] theorem indexZeroPage_toNat (zp x : Byte) : (indexZeroPage zp x).toNat = (zp.toNat + x.toNat) % 256 := by
  simp [indexZeroPage]

/-- A branch target (R151). -/
theorem relativeTarget_toNat (pc : Addr) (rel : Byte) :
    ((relativeTarget pc rel).toNat : Int) = ((pc.toNat : Int) + 2 + rel.toInt) % 65536 := by
  have h1 : (relativeTarget pc rel) = pc + 2 + BitVec.ofInt 16 rel.toInt := by
    unfold relativeTarget sext16
    rw [BitVec.signExtend]
  rw [h1, BitVec.toNat_add, BitVec.toNat_add, BitVec.toNat_ofInt]
  simp
  omega

end Machine

end Sys2Proof
end

