-- ==== Sys2Proof/Laws/Memory.lean ====
section
/-!
SUPPORT. Memory and the bus: a read after a write, the canonical form, and everything one bus access can do
(spec/20_memory.md rules R60 to R62, R78, R80).
-/

namespace Sys2Proof.Machine

theorem Memory.read_erase_same (m : List Host.Cell) (a : Addr) : Memory.read (Memory.erase m a) a = Memory.background := by
  induction m with
  | nil => rfl
  | cons c rest ih =>
    obtain ⟨k, v⟩ := c
    by_cases h : k = a.toNat <;> simp [Memory.erase, Memory.read, h, ih]

theorem Memory.read_erase_other (m : List Host.Cell) {a b : Addr} (h : b ≠ a) :
    Memory.read (Memory.erase m a) b = Memory.read m b := by
  have hn : a.toNat ≠ b.toNat := fun e => h (BitVec.eq_of_toNat_eq e.symm)
  induction m with
  | nil => rfl
  | cons c rest ih =>
    obtain ⟨k, v⟩ := c
    by_cases hk : k = a.toNat
    · simp [Memory.erase, Memory.read, hk, ih, hn]
    · simp [Memory.erase, Memory.read, hk, ih]

theorem Memory.read_insert_same (m : List Host.Cell) (a : Addr) (v : Byte) (h : ∀ c ∈ m, c.1 ≠ a.toNat) :
    Memory.read (Memory.insert m a v) a = v := by
  induction m with
  | nil => simp [Memory.insert, Memory.read]
  | cons c rest ih =>
    obtain ⟨k, w⟩ := c
    have hk : k ≠ a.toNat := h (k, w) (by simp)
    by_cases hl : a.toNat < k
    · simp [Memory.insert, Memory.read, hl]
    · simp [Memory.insert, Memory.read, hl, hk, ih (fun c hc => h c (by simp [hc]))]

theorem Memory.read_insert_other (m : List Host.Cell) {a b : Addr} (v : Byte) (h : b ≠ a) :
    Memory.read (Memory.insert m a v) b = Memory.read m b := by
  have hn : a.toNat ≠ b.toNat := fun e => h (BitVec.eq_of_toNat_eq e.symm)
  induction m with
  | nil => simp [Memory.insert, Memory.read, hn]
  | cons c rest ih =>
    obtain ⟨k, w⟩ := c
    by_cases hl : a.toNat < k
    · simp [Memory.insert, Memory.read, hl, hn]
    · simp [Memory.insert, Memory.read, hl, ih]

theorem Memory.mem_erase {m : List Host.Cell} {a : Addr} {c : Host.Cell} (h : c ∈ Memory.erase m a) :
    c ∈ m ∧ c.1 ≠ a.toNat := by
  induction m with
  | nil => simp [Memory.erase] at h
  | cons d rest ih =>
    obtain ⟨k, v⟩ := d
    by_cases hk : k = a.toNat
    · rw [Memory.erase, if_pos hk] at h
      exact ⟨List.mem_cons_of_mem _ (ih h).1, (ih h).2⟩
    · rw [Memory.erase, if_neg hk] at h
      rcases List.mem_cons.mp h with rfl | h
      · exact ⟨by simp, hk⟩
      · exact ⟨List.mem_cons_of_mem _ (ih h).1, (ih h).2⟩

/-- A read after a write to the same address gives the byte written, in every memory. -/
@[simp] theorem Memory.read_write_same (m : List Host.Cell) (a : Addr) (v : Byte) :
    Memory.read (Memory.write m a v) a = v := by
  by_cases h : v = Memory.background
  · simp [Memory.write, h, Memory.read_erase_same]
  · rw [Memory.write, if_neg h]
    exact Memory.read_insert_same _ _ _ fun c hc => (Memory.mem_erase hc).2

/-- A write leaves every other address alone, in every memory. -/
theorem Memory.read_write_other (m : List Host.Cell) {a b : Addr} (v : Byte) (h : b ≠ a) :
    Memory.read (Memory.write m a v) b = Memory.read m b := by
  by_cases hv : v = Memory.background
  · simp [Memory.write, hv, Memory.read_erase_other m h]
  · rw [Memory.write, if_neg hv, Memory.read_insert_other _ v h, Memory.read_erase_other m h]

theorem Memory.wfFrom_weaken {m : List Host.Cell} {lo lo' : Nat} (h : lo' ≤ lo) (hm : Memory.wfFrom lo m = true) :
    Memory.wfFrom lo' m = true := by
  cases m with
  | nil => rfl
  | cons c rest =>
    obtain ⟨k, v⟩ := c
    simp only [Memory.wfFrom, Bool.and_eq_true, decide_eq_true_eq] at hm ⊢
    exact ⟨⟨⟨by omega, hm.1.1.2⟩, hm.1.2⟩, hm.2⟩

theorem Memory.wfFrom_erase {m : List Host.Cell} {lo : Nat} (a : Addr) (hm : Memory.wfFrom lo m = true) :
    Memory.wfFrom lo (Memory.erase m a) = true := by
  induction m generalizing lo with
  | nil => rfl
  | cons c rest ih =>
    obtain ⟨k, v⟩ := c
    simp only [Memory.wfFrom, Bool.and_eq_true, decide_eq_true_eq] at hm
    by_cases hk : k = a.toNat
    · rw [Memory.erase, if_pos hk]
      exact Memory.wfFrom_weaken (by omega) (ih hm.2)
    · rw [Memory.erase, if_neg hk]
      simp only [Memory.wfFrom, Bool.and_eq_true, decide_eq_true_eq]
      exact ⟨hm.1, ih hm.2⟩

theorem Memory.wfFrom_insert {m : List Host.Cell} {lo : Nat} (a : Addr) (v : Byte) (hv : v ≠ Memory.background)
    (hlo : lo ≤ a.toNat) (ha : ∀ c ∈ m, c.1 ≠ a.toNat) (hm : Memory.wfFrom lo m = true) :
    Memory.wfFrom lo (Memory.insert m a v) = true := by
  have ha16 : a.toNat < 65536 := a.isLt
  induction m generalizing lo with
  | nil => simp [Memory.insert, Memory.wfFrom, hlo, ha16, hv]
  | cons c rest ih =>
    obtain ⟨k, w⟩ := c
    simp only [Memory.wfFrom, Bool.and_eq_true, decide_eq_true_eq] at hm
    have hk : k ≠ a.toNat := ha (k, w) (by simp)
    by_cases hl : a.toNat < k
    · simp only [Memory.insert, hl, if_true, Memory.wfFrom, Bool.and_eq_true, decide_eq_true_eq]
      exact ⟨⟨⟨hlo, ha16⟩, by simpa using hv⟩, ⟨⟨by omega, hm.1.1.2⟩, hm.1.2⟩, hm.2⟩
    · simp only [Memory.insert, hl, if_false, Memory.wfFrom, Bool.and_eq_true, decide_eq_true_eq]
      exact ⟨hm.1, ih (by omega) (fun c hc => ha c (by simp [hc])) hm.2⟩

/-- A write keeps the canonical form. -/
theorem Memory.wf_write {m : List Host.Cell} (a : Addr) (v : Byte) (hm : Memory.wf m = true) :
    Memory.wf (Memory.write m a v) = true := by
  by_cases hv : v = Memory.background
  · rw [Memory.write, if_pos hv]
    exact Memory.wfFrom_erase a hm
  · rw [Memory.write, if_neg hv]
    exact Memory.wfFrom_insert a v hv (Nat.zero_le _) (fun c hc => (Memory.mem_erase hc).2) (Memory.wfFrom_erase a hm)

/-! One read of the bus: the answer, the access in the log, and what the platform has seen; memory and the map stay. -/

@[simp] theorem Bus.readByte_fst (b : Bus) (a : Addr) : (b.readByte a).1 = b.answer a := by
  unfold Bus.readByte; split <;> rfl

@[simp] theorem Bus.readByte_mem (b : Bus) (a : Addr) : (b.readByte a).2.mem = b.mem := by
  unfold Bus.readByte; split <;> rfl

@[simp] theorem Bus.readByte_regions (b : Bus) (a : Addr) : (b.readByte a).2.regions = b.regions := by
  unfold Bus.readByte; split <;> rfl

@[simp] theorem Bus.readByte_log (b : Bus) (a : Addr) : (b.readByte a).2.log = b.log ++ [.read a (b.answer a)] := by
  unfold Bus.readByte; split <;> rfl

@[simp] theorem Bus.readByte_kindAt (b : Bus) (a c : Addr) : (b.readByte a).2.kindAt c = b.kindAt c := by
  simp [Bus.kindAt]

/-- The platform sees every read it answers. -/
theorem Bus.readByte_seen (b : Bus) (a : Addr) :
    (b.readByte a).2.seen = if b.kindAt a = .device then .read a (b.answer a) :: b.seen else b.seen := by
  unfold Bus.readByte
  cases b.kindAt a <;> rfl

/-- Where memory answers, a read changes the log alone. -/
theorem Bus.readByte_memory {b : Bus} {a : Addr} (h : b.kindAt a ≠ .device) :
    b.readByte a = (Memory.read b.mem a, b.record (.read a (Memory.read b.mem a))) := by
  unfold Bus.readByte Bus.answer
  cases hk : b.kindAt a <;> simp_all

/-- Where memory answers, the answer is the byte it holds. -/
theorem Bus.answer_memory {b : Bus} {a : Addr} (h : b.kindAt a ≠ .device) : b.answer a = Memory.read b.mem a := by
  unfold Bus.answer; cases hk : b.kindAt a <;> simp_all

/-- Where a device answers, the answer is a free value. -/
theorem Bus.answer_device {b : Bus} {a : Addr} (h : b.kindAt a = .device) : b.answer a = Config.deviceByte b.seen a := by
  simp [Bus.answer, h]

/-! One write of the bus: the access in the log, and memory where it takes the byte; the map stays. -/

@[simp] theorem Bus.writeByte_regions (b : Bus) (a : Addr) (v : Byte) : (b.writeByte a v).regions = b.regions := by
  unfold Bus.writeByte; split <;> rfl

@[simp] theorem Bus.writeByte_log (b : Bus) (a : Addr) (v : Byte) : (b.writeByte a v).log = b.log ++ [.write a v] := by
  unfold Bus.writeByte; split <;> rfl

/-- The platform sees every write that memory does not take. -/
theorem Bus.writeByte_seen (b : Bus) (a : Addr) (v : Byte) :
    (b.writeByte a v).seen = if b.kindAt a = .ram then b.seen else .write a v :: b.seen := by
  unfold Bus.writeByte
  cases b.kindAt a <;> rfl

@[simp] theorem Bus.writeByte_kindAt (b : Bus) (a c : Addr) (v : Byte) : (b.writeByte a v).kindAt c = b.kindAt c := by
  simp [Bus.kindAt]

/-- Memory after a write of the bus. -/
theorem Bus.writeByte_mem (b : Bus) (a : Addr) (v : Byte) :
    (b.writeByte a v).mem = if b.kindAt a = .ram then Memory.write b.mem a v else b.mem := by
  unfold Bus.writeByte
  cases b.kindAt a <;> rfl

/-- A write leaves the bytes at every other address. -/
theorem Bus.read_writeByte_other (b : Bus) {a c : Addr} (v : Byte) (h : c ≠ a) :
    Memory.read (b.writeByte a v).mem c = Memory.read b.mem c := by
  rw [Bus.writeByte_mem]
  split
  · exact Memory.read_write_other _ v h
  · rfl

/-- Memory that takes a write holds the byte written. -/
theorem Bus.read_writeByte_same (b : Bus) {a : Addr} (v : Byte) (h : b.kindAt a = .ram) :
    Memory.read (b.writeByte a v).mem a = v := by
  rw [Bus.writeByte_mem, if_pos h, Memory.read_write_same]

/-- Memory that a write does not change, and a device, leave every byte as it was. -/
theorem Bus.writeByte_mem_of_not_ram (b : Bus) {a : Addr} (v : Byte) (h : b.kindAt a ≠ .ram) :
    (b.writeByte a v).mem = b.mem := by
  rw [Bus.writeByte_mem, if_neg h]

/-- Any bus is an instance at the addresses the platform answers: let `read` and `write` be the two operations of R60 on any
states `B`, let `view` give the platform's state after the accesses it has seen, and let the platform answer as `read` does; then
the model's read and write are `read` and `write`. -/
theorem Bus.device_instance {B : Type} (read : B → Addr → Byte × B) (write : B → Addr → Byte → B) (view : List Access → B)
    (hr : ∀ h a, Config.deviceByte h a = (read (view h) a).1)
    (hv : ∀ h a, view (.read a (Config.deviceByte h a) :: h) = (read (view h) a).2)
    (hw : ∀ h a v, view (.write a v :: h) = write (view h) a v)
    (b : Bus) (a : Addr) (v : Byte) (h : b.kindAt a = .device) :
    ((b.readByte a).1, view (b.readByte a).2.seen) = read (view b.seen) a ∧
      view (b.writeByte a v).seen = write (view b.seen) a v := by
  refine ⟨?_, by simp [Bus.writeByte_seen, h, hw]⟩
  rw [Bus.readByte_fst, Bus.readByte_seen, if_pos h, Bus.answer_device h, hv, hr]

/-- A write of the bus keeps the canonical form. -/
theorem Bus.wf_writeByte {b : Bus} (a : Addr) (v : Byte) (h : Memory.wf b.mem = true) :
    Memory.wf (b.writeByte a v).mem = true := by
  rw [Bus.writeByte_mem]
  split
  · exact Memory.wf_write a v h
  · exact h

/-- A read of the bus keeps the canonical form. -/
theorem Bus.wf_readByte {b : Bus} (a : Addr) (h : Memory.wf b.mem = true) : Memory.wf (b.readByte a).2.mem = true := by
  simpa using h

end Sys2Proof.Machine
end

