-- ==== Sys2Proof/Laws/State.lean ====
section
/-!
SUPPORT. One lemma per field per register update, so that no proof unfolds a record update.
-/

namespace Sys2Proof.Machine

@[simp] theorem State.setA_a (s : State) (v : Byte) : (s.setA v).a = v := rfl
@[simp] theorem State.setA_x (s : State) (v : Byte) : (s.setA v).x = s.x := rfl
@[simp] theorem State.setA_y (s : State) (v : Byte) : (s.setA v).y = s.y := rfl
@[simp] theorem State.setA_sp (s : State) (v : Byte) : (s.setA v).sp = s.sp := rfl
@[simp] theorem State.setA_p (s : State) (v : Byte) : (s.setA v).p = s.p := rfl
@[simp] theorem State.setA_pc (s : State) (v : Byte) : (s.setA v).pc = s.pc := rfl
@[simp] theorem State.setA_aWritten (s : State) (v : Byte) : (s.setA v).aWritten = true := rfl
@[simp] theorem State.setA_xWritten (s : State) (v : Byte) : (s.setA v).xWritten = s.xWritten := rfl
@[simp] theorem State.setA_yWritten (s : State) (v : Byte) : (s.setA v).yWritten = s.yWritten := rfl
@[simp] theorem State.setA_result (s : State) (v : Byte) : (s.setA v).result = s.result := rfl
@[simp] theorem State.setA_bus (s : State) (v : Byte) : (s.setA v).bus = s.bus := rfl

@[simp] theorem State.setX_a (s : State) (v : Byte) : (s.setX v).a = s.a := rfl
@[simp] theorem State.setX_x (s : State) (v : Byte) : (s.setX v).x = v := rfl
@[simp] theorem State.setX_y (s : State) (v : Byte) : (s.setX v).y = s.y := rfl
@[simp] theorem State.setX_sp (s : State) (v : Byte) : (s.setX v).sp = s.sp := rfl
@[simp] theorem State.setX_p (s : State) (v : Byte) : (s.setX v).p = s.p := rfl
@[simp] theorem State.setX_pc (s : State) (v : Byte) : (s.setX v).pc = s.pc := rfl
@[simp] theorem State.setX_aWritten (s : State) (v : Byte) : (s.setX v).aWritten = s.aWritten := rfl
@[simp] theorem State.setX_xWritten (s : State) (v : Byte) : (s.setX v).xWritten = true := rfl
@[simp] theorem State.setX_yWritten (s : State) (v : Byte) : (s.setX v).yWritten = s.yWritten := rfl
@[simp] theorem State.setX_result (s : State) (v : Byte) : (s.setX v).result = s.result := rfl
@[simp] theorem State.setX_bus (s : State) (v : Byte) : (s.setX v).bus = s.bus := rfl

@[simp] theorem State.setY_a (s : State) (v : Byte) : (s.setY v).a = s.a := rfl
@[simp] theorem State.setY_x (s : State) (v : Byte) : (s.setY v).x = s.x := rfl
@[simp] theorem State.setY_y (s : State) (v : Byte) : (s.setY v).y = v := rfl
@[simp] theorem State.setY_sp (s : State) (v : Byte) : (s.setY v).sp = s.sp := rfl
@[simp] theorem State.setY_p (s : State) (v : Byte) : (s.setY v).p = s.p := rfl
@[simp] theorem State.setY_pc (s : State) (v : Byte) : (s.setY v).pc = s.pc := rfl
@[simp] theorem State.setY_aWritten (s : State) (v : Byte) : (s.setY v).aWritten = s.aWritten := rfl
@[simp] theorem State.setY_xWritten (s : State) (v : Byte) : (s.setY v).xWritten = s.xWritten := rfl
@[simp] theorem State.setY_yWritten (s : State) (v : Byte) : (s.setY v).yWritten = true := rfl
@[simp] theorem State.setY_result (s : State) (v : Byte) : (s.setY v).result = s.result := rfl
@[simp] theorem State.setY_bus (s : State) (v : Byte) : (s.setY v).bus = s.bus := rfl

@[simp] theorem State.setSP_a (s : State) (v : Byte) : (s.setSP v).a = s.a := rfl
@[simp] theorem State.setSP_x (s : State) (v : Byte) : (s.setSP v).x = s.x := rfl
@[simp] theorem State.setSP_y (s : State) (v : Byte) : (s.setSP v).y = s.y := rfl
@[simp] theorem State.setSP_sp (s : State) (v : Byte) : (s.setSP v).sp = v := rfl
@[simp] theorem State.setSP_p (s : State) (v : Byte) : (s.setSP v).p = s.p := rfl
@[simp] theorem State.setSP_pc (s : State) (v : Byte) : (s.setSP v).pc = s.pc := rfl
@[simp] theorem State.setSP_aWritten (s : State) (v : Byte) : (s.setSP v).aWritten = s.aWritten := rfl
@[simp] theorem State.setSP_xWritten (s : State) (v : Byte) : (s.setSP v).xWritten = s.xWritten := rfl
@[simp] theorem State.setSP_yWritten (s : State) (v : Byte) : (s.setSP v).yWritten = s.yWritten := rfl
@[simp] theorem State.setSP_result (s : State) (v : Byte) : (s.setSP v).result = s.result := rfl
@[simp] theorem State.setSP_bus (s : State) (v : Byte) : (s.setSP v).bus = s.bus := rfl

@[simp] theorem State.setP_a (s : State) (v : Byte) : (s.setP v).a = s.a := rfl
@[simp] theorem State.setP_x (s : State) (v : Byte) : (s.setP v).x = s.x := rfl
@[simp] theorem State.setP_y (s : State) (v : Byte) : (s.setP v).y = s.y := rfl
@[simp] theorem State.setP_sp (s : State) (v : Byte) : (s.setP v).sp = s.sp := rfl
@[simp] theorem State.setP_p (s : State) (v : Byte) : (s.setP v).p = filterP v := rfl
@[simp] theorem State.setP_pc (s : State) (v : Byte) : (s.setP v).pc = s.pc := rfl
@[simp] theorem State.setP_aWritten (s : State) (v : Byte) : (s.setP v).aWritten = s.aWritten := rfl
@[simp] theorem State.setP_xWritten (s : State) (v : Byte) : (s.setP v).xWritten = s.xWritten := rfl
@[simp] theorem State.setP_yWritten (s : State) (v : Byte) : (s.setP v).yWritten = s.yWritten := rfl
@[simp] theorem State.setP_result (s : State) (v : Byte) : (s.setP v).result = s.result := rfl
@[simp] theorem State.setP_bus (s : State) (v : Byte) : (s.setP v).bus = s.bus := rfl

@[simp] theorem State.setPC_a (s : State) (v : Addr) : (s.setPC v).a = s.a := rfl
@[simp] theorem State.setPC_x (s : State) (v : Addr) : (s.setPC v).x = s.x := rfl
@[simp] theorem State.setPC_y (s : State) (v : Addr) : (s.setPC v).y = s.y := rfl
@[simp] theorem State.setPC_sp (s : State) (v : Addr) : (s.setPC v).sp = s.sp := rfl
@[simp] theorem State.setPC_p (s : State) (v : Addr) : (s.setPC v).p = s.p := rfl
@[simp] theorem State.setPC_pc (s : State) (v : Addr) : (s.setPC v).pc = v := rfl
@[simp] theorem State.setPC_aWritten (s : State) (v : Addr) : (s.setPC v).aWritten = s.aWritten := rfl
@[simp] theorem State.setPC_xWritten (s : State) (v : Addr) : (s.setPC v).xWritten = s.xWritten := rfl
@[simp] theorem State.setPC_yWritten (s : State) (v : Addr) : (s.setPC v).yWritten = s.yWritten := rfl
@[simp] theorem State.setPC_result (s : State) (v : Addr) : (s.setPC v).result = s.result := rfl
@[simp] theorem State.setPC_bus (s : State) (v : Addr) : (s.setPC v).bus = s.bus := rfl

@[simp] theorem State.setBus_a (s : State) (b : Bus) : (s.setBus b).a = s.a := rfl
@[simp] theorem State.setBus_x (s : State) (b : Bus) : (s.setBus b).x = s.x := rfl
@[simp] theorem State.setBus_y (s : State) (b : Bus) : (s.setBus b).y = s.y := rfl
@[simp] theorem State.setBus_sp (s : State) (b : Bus) : (s.setBus b).sp = s.sp := rfl
@[simp] theorem State.setBus_p (s : State) (b : Bus) : (s.setBus b).p = s.p := rfl
@[simp] theorem State.setBus_pc (s : State) (b : Bus) : (s.setBus b).pc = s.pc := rfl
@[simp] theorem State.setBus_aWritten (s : State) (b : Bus) : (s.setBus b).aWritten = s.aWritten := rfl
@[simp] theorem State.setBus_xWritten (s : State) (b : Bus) : (s.setBus b).xWritten = s.xWritten := rfl
@[simp] theorem State.setBus_yWritten (s : State) (b : Bus) : (s.setBus b).yWritten = s.yWritten := rfl
@[simp] theorem State.setBus_result (s : State) (b : Bus) : (s.setBus b).result = s.result := rfl
@[simp] theorem State.setBus_bus (s : State) (b : Bus) : (s.setBus b).bus = b := rfl

@[simp] theorem State.commit_a (s : State) (n : Nat) (o : Option Addr) : (s.commit n o).a = s.a := rfl
@[simp] theorem State.commit_x (s : State) (n : Nat) (o : Option Addr) : (s.commit n o).x = s.x := rfl
@[simp] theorem State.commit_y (s : State) (n : Nat) (o : Option Addr) : (s.commit n o).y = s.y := rfl
@[simp] theorem State.commit_sp (s : State) (n : Nat) (o : Option Addr) : (s.commit n o).sp = s.sp := rfl
@[simp] theorem State.commit_p (s : State) (n : Nat) (o : Option Addr) : (s.commit n o).p = s.p := rfl
@[simp] theorem State.commit_pc (s : State) (n : Nat) (o : Option Addr) : (s.commit n o).pc = o.getD (s.pc + BitVec.ofNat 16 n) := rfl
@[simp] theorem State.commit_aWritten (s : State) (n : Nat) (o : Option Addr) : (s.commit n o).aWritten = s.aWritten := rfl
@[simp] theorem State.commit_xWritten (s : State) (n : Nat) (o : Option Addr) : (s.commit n o).xWritten = s.xWritten := rfl
@[simp] theorem State.commit_yWritten (s : State) (n : Nat) (o : Option Addr) : (s.commit n o).yWritten = s.yWritten := rfl
@[simp] theorem State.commit_result (s : State) (n : Nat) (o : Option Addr) : (s.commit n o).result = some { length := n, jumped := o.isSome } := rfl
@[simp] theorem State.commit_bus (s : State) (n : Nat) (o : Option Addr) : (s.commit n o).bus = s.bus := rfl

/-- Two updates of the bus are the last one. -/
@[simp] theorem State.setBus_setBus (s : State) (b c : Bus) : (s.setBus b).setBus c = s.setBus c := rfl

/-- Updating the bus with the bus that stands there changes nothing. -/
@[simp] theorem State.setBus_self (s : State) : s.setBus s.bus = s := rfl

/-- P reads through the filter of R27 after any write. -/
@[simp] theorem State.setP_status (s : State) (v : Byte) : (s.setP v).status = filterP (filterP v) := rfl

end Sys2Proof.Machine
end

