-- ==== Sys2Proof/Laws/Ops.lean ====
section
/-!
SUPPORT. One lemma per shared operation that says everything it can do, in terms of the bus and of the register updates of
Laws/State.lean; later proofs cite these and do not unfold the operation.
-/

namespace Sys2Proof.Machine

/-! Memory primitives (R15): a read and a write change the bus alone. -/

@[simp] theorem State.memRead_fst (s : State) (a : Addr) : (s.memRead a).1 = s.bus.answer a := by
  simp [State.memRead]

@[simp] theorem State.memRead_snd (s : State) (a : Addr) : (s.memRead a).2 = s.setBus (s.bus.readByte a).2 := rfl

@[simp] theorem State.memWrite_eq (s : State) (a : Addr) (v : Byte) : s.memWrite a v = s.setBus (s.bus.writeByte a v) := rfl

@[simp] theorem State.readWord_fst (s : State) (lo hi : Addr) :
    (s.readWord lo hi).1 = word ((s.bus.readByte lo).2.answer hi) (s.bus.answer lo) := by
  simp [State.readWord]

@[simp] theorem State.readWord_snd (s : State) (lo hi : Addr) :
    (s.readWord lo hi).2 = s.setBus ((s.bus.readByte lo).2.readByte hi).2 := by
  simp [State.readWord]

/-! The stack (R75, R76): SP and the bus, and nothing else. -/

@[simp] theorem State.push_eq (s : State) (v : Byte) :
    s.push v = (s.setBus (s.bus.writeByte (stackAddr s.sp) v)).setSP (s.sp - 1) := rfl

@[simp] theorem State.pull_fst (s : State) : s.pull.1 = s.bus.answer (stackAddr (s.sp + 1)) := by
  simp [State.pull]

@[simp] theorem State.pull_snd (s : State) :
    s.pull.2 = (s.setSP (s.sp + 1)).setBus (s.bus.readByte (stackAddr (s.sp + 1))).2 := rfl

theorem State.pushWord_eq (s : State) (v : Addr) :
    s.pushWord v =
      (s.setBus ((s.bus.writeByte (stackAddr s.sp) (hiByte v)).writeByte (stackAddr (s.sp - 1)) (loByte v))).setSP
        (s.sp - 1 - 1) := rfl

theorem State.pullWord_fst (s : State) :
    s.pullWord.1 =
      word ((s.bus.readByte (stackAddr (s.sp + 1))).2.answer (stackAddr (s.sp + 1 + 1)))
        (s.bus.answer (stackAddr (s.sp + 1))) := by
  simp [State.pullWord]

theorem State.pullWord_snd (s : State) :
    s.pullWord.2 =
      (s.setSP (s.sp + 1 + 1)).setBus
        ((s.bus.readByte (stackAddr (s.sp + 1))).2.readByte (stackAddr (s.sp + 1 + 1))).2 := by
  simp [State.pullWord]; rfl

/-- Pushing three bytes does not touch the registers but SP, nor the bus but through the three writes (R303). -/
theorem State.enter_eq (s : State) (vec ret : Addr) (brk : Bool) :
    s.enter vec ret brk =
      let b := ((s.bus.writeByte (stackAddr s.sp) (hiByte ret)).writeByte (stackAddr (s.sp - 1)) (loByte ret)).writeByte
        (stackAddr (s.sp - 1 - 1)) (pushedP s.status brk)
      (((s.setSP (s.sp - 1 - 1 - 1)).setP (withInterruptDisable s.status true)).setBus
        ((b.readByte vec).2.readByte (vec + 1)).2).setPC (word ((b.readByte vec).2.answer (vec + 1)) (b.answer vec)) := by
  simp [State.enter, State.pushWord]; rfl

/-- The return pulls three bytes (R234). -/
theorem State.returnFromInterrupt_eq (s : State) :
    s.returnFromInterrupt =
      let b := (s.bus.readByte (stackAddr (s.sp + 1))).2
      let c := (b.readByte (stackAddr (s.sp + 1 + 1))).2
      (((s.setSP (s.sp + 1 + 1 + 1)).setP (s.bus.answer (stackAddr (s.sp + 1)))).setBus
        (c.readByte (stackAddr (s.sp + 1 + 1 + 1))).2).setPC
        (word (c.answer (stackAddr (s.sp + 1 + 1 + 1))) (b.answer (stackAddr (s.sp + 1 + 1)))) := by
  simp [State.returnFromInterrupt, State.pullWord]; rfl

/-! The resolver (R137 to R151) changes the bus alone, by reads: every register, the bytes of memory and the map stay. -/

theorem State.effectiveAddress_snd (s : State) (o : MemOperand) :
    (s.effectiveAddress o).2 = s.setBus (s.effectiveAddress o).2.bus := by
  cases o <;> simp [State.effectiveAddress, State.zeroPagePointer]

@[simp] theorem State.effectiveAddress_a (s : State) (o : MemOperand) : (s.effectiveAddress o).2.a = s.a := by
  rw [State.effectiveAddress_snd]; rfl

@[simp] theorem State.effectiveAddress_x (s : State) (o : MemOperand) : (s.effectiveAddress o).2.x = s.x := by
  rw [State.effectiveAddress_snd]; rfl

@[simp] theorem State.effectiveAddress_y (s : State) (o : MemOperand) : (s.effectiveAddress o).2.y = s.y := by
  rw [State.effectiveAddress_snd]; rfl

@[simp] theorem State.effectiveAddress_sp (s : State) (o : MemOperand) : (s.effectiveAddress o).2.sp = s.sp := by
  rw [State.effectiveAddress_snd]; rfl

@[simp] theorem State.effectiveAddress_p (s : State) (o : MemOperand) : (s.effectiveAddress o).2.p = s.p := by
  rw [State.effectiveAddress_snd]; rfl

@[simp] theorem State.effectiveAddress_pc (s : State) (o : MemOperand) : (s.effectiveAddress o).2.pc = s.pc := by
  rw [State.effectiveAddress_snd]; rfl

@[simp] theorem State.effectiveAddress_aWritten (s : State) (o : MemOperand) : (s.effectiveAddress o).2.aWritten = s.aWritten := by
  rw [State.effectiveAddress_snd]; rfl

@[simp] theorem State.effectiveAddress_xWritten (s : State) (o : MemOperand) : (s.effectiveAddress o).2.xWritten = s.xWritten := by
  rw [State.effectiveAddress_snd]; rfl

@[simp] theorem State.effectiveAddress_yWritten (s : State) (o : MemOperand) : (s.effectiveAddress o).2.yWritten = s.yWritten := by
  rw [State.effectiveAddress_snd]; rfl

@[simp] theorem State.effectiveAddress_result (s : State) (o : MemOperand) : (s.effectiveAddress o).2.result = s.result := by
  rw [State.effectiveAddress_snd]; rfl

@[simp] theorem State.effectiveAddress_mem (s : State) (o : MemOperand) :
    (s.effectiveAddress o).2.bus.mem = s.bus.mem := by
  cases o <;> simp [State.effectiveAddress, State.zeroPagePointer]

@[simp] theorem State.effectiveAddress_regions (s : State) (o : MemOperand) :
    (s.effectiveAddress o).2.bus.regions = s.bus.regions := by
  cases o <;> simp [State.effectiveAddress, State.zeroPagePointer]

@[simp] theorem State.effectiveAddress_kindAt (s : State) (o : MemOperand) (a : Addr) :
    (s.effectiveAddress o).2.bus.kindAt a = s.bus.kindAt a := by
  simp [Bus.kindAt]

@[simp] theorem State.effectiveAddress_status (s : State) (o : MemOperand) : (s.effectiveAddress o).2.status = s.status := by
  simp [State.status]

theorem State.sourceValue_snd (s : State) (src : Source) : (s.sourceValue src).2 = s.setBus (s.sourceValue src).2.bus := by
  cases src with
  | immediate imm => rfl
  | memory o =>
    simp only [State.sourceValue, State.memRead_snd]
    rw [State.effectiveAddress_snd]
    rfl

@[simp] theorem State.sourceValue_a (s : State) (src : Source) : (s.sourceValue src).2.a = s.a := by
  rw [State.sourceValue_snd]; rfl

@[simp] theorem State.sourceValue_x (s : State) (src : Source) : (s.sourceValue src).2.x = s.x := by
  rw [State.sourceValue_snd]; rfl

@[simp] theorem State.sourceValue_y (s : State) (src : Source) : (s.sourceValue src).2.y = s.y := by
  rw [State.sourceValue_snd]; rfl

@[simp] theorem State.sourceValue_sp (s : State) (src : Source) : (s.sourceValue src).2.sp = s.sp := by
  rw [State.sourceValue_snd]; rfl

@[simp] theorem State.sourceValue_p (s : State) (src : Source) : (s.sourceValue src).2.p = s.p := by
  rw [State.sourceValue_snd]; rfl

@[simp] theorem State.sourceValue_pc (s : State) (src : Source) : (s.sourceValue src).2.pc = s.pc := by
  rw [State.sourceValue_snd]; rfl

@[simp] theorem State.sourceValue_aWritten (s : State) (src : Source) : (s.sourceValue src).2.aWritten = s.aWritten := by
  rw [State.sourceValue_snd]; rfl

@[simp] theorem State.sourceValue_xWritten (s : State) (src : Source) : (s.sourceValue src).2.xWritten = s.xWritten := by
  rw [State.sourceValue_snd]; rfl

@[simp] theorem State.sourceValue_yWritten (s : State) (src : Source) : (s.sourceValue src).2.yWritten = s.yWritten := by
  rw [State.sourceValue_snd]; rfl

@[simp] theorem State.sourceValue_result (s : State) (src : Source) : (s.sourceValue src).2.result = s.result := by
  rw [State.sourceValue_snd]; rfl

@[simp] theorem State.sourceValue_mem (s : State) (src : Source) : (s.sourceValue src).2.bus.mem = s.bus.mem := by
  cases src <;> simp [State.sourceValue]

@[simp] theorem State.sourceValue_regions (s : State) (src : Source) : (s.sourceValue src).2.bus.regions = s.bus.regions := by
  cases src <;> simp [State.sourceValue]

@[simp] theorem State.sourceValue_status (s : State) (src : Source) : (s.sourceValue src).2.status = s.status := by
  simp [State.status]

/-! What the classes answer (R134, R136): each always a next state. -/

theorem readClass_eq (src : Source) (handler : Byte → State → State) (s : State) :
    readClass src handler s =
      .next ((handler (s.sourceValue src).1 (s.sourceValue src).2).commit src.length none) := rfl

theorem writeClass_eq (o : MemOperand) (v : Byte) (s : State) :
    writeClass o v s =
      .next (((s.effectiveAddress o).2.memWrite (s.effectiveAddress o).1 v).commit (modeLength o.mode) none) := rfl

theorem modifyClass_accumulator (f : Byte → Byte → Byte × Byte) (s : State) :
    modifyClass .accumulator f s = .next (((s.setA (f s.a s.status).1).setP (f s.a s.status).2).commit 1 none) := rfl

theorem modifyClass_memory (o : MemOperand) (f : Byte → Byte → Byte × Byte) (s : State) :
    modifyClass (.memory o) f s =
      let ea := s.effectiveAddress o
      let r := f (ea.2.bus.answer ea.1) s.status
      .next (((s.setBus ((ea.2.bus.readByte ea.1).2.writeByte ea.1 r.1)).setP r.2).commit (modeLength o.mode) none) := by
  simp only [modifyClass, State.memRead_fst, State.memRead_snd, State.memWrite_eq, State.setBus_setBus, State.setBus_bus]
  rw [State.effectiveAddress_snd]
  rfl

theorem branchClass_eq (rel : Byte) (cond : Bool) (s : State) :
    branchClass rel cond s = .next (s.commit 2 (if cond then some (relativeTarget s.pc rel) else none)) := rfl

theorem impliedClass_eq (handler : State → State) (s : State) :
    impliedClass handler s = .next ((handler s).commit 1 none) := rfl

/-! The flag filter (R27). -/

@[simp] theorem filterP_filterP (v : Byte) : filterP (filterP v) = filterP v := by
  unfold filterP
  ext i hi
  interval_cases i <;> simp

/-- P holds B as 0 after any write (R27). -/
@[simp] theorem filterP_bit4 (v : Byte) : (filterP v).getLsbD 4 = false := by simp [filterP]

/-- P holds U as 1 after any write (R27). -/
@[simp] theorem filterP_bit5 (v : Byte) : (filterP v).getLsbD 5 = true := by simp [filterP]

/-! The fetch (R131 to R133) and the step (R130). -/

/-- The fetch changes the bus alone. -/
theorem State.fetch_snd {s : State} {i : Instr} {t : State} (h : s.fetch = .ok (i, t)) : t = s.setBus t.bus := by
  unfold State.fetch at h
  simp only at h
  split at h
  · cases h
  · next f _ =>
    cases f <;> simp only [State.fetchOperands, Except.ok.injEq, Prod.mk.injEq] at h <;> obtain ⟨-, rfl⟩ := h <;>
      simp [State.clearLog]

/-- The fetch leaves memory and the map as they are. -/
theorem State.fetch_mem {s : State} {i : Instr} {t : State} (h : s.fetch = .ok (i, t)) :
    t.bus.mem = s.bus.mem ∧ t.bus.regions = s.bus.regions := by
  unfold State.fetch at h
  simp only at h
  split at h
  · cases h
  · next f _ =>
    cases f <;> simp only [State.fetchOperands, Except.ok.injEq, Prod.mk.injEq] at h <;> obtain ⟨-, rfl⟩ := h <;>
      simp [State.clearLog]

/-- A step that completes runs the instruction it has fetched. -/
theorem step_next {s t : State} (h : step s = .next t) : ∃ i u, s.fetch = .ok (i, u) ∧ exec i u = .next t := by
  unfold step at h
  split at h
  · cases h
  · next i u hf => exact ⟨i, u, hf, h⟩

/-- The state after reset is what the host's reset makes of it again (R331). -/
theorem State.hostReset_reset : State.reset.hostReset = State.reset := by rfl

end Sys2Proof.Machine
end

