-- ==== Sys2Proof/Laws/PerInstr.lean ====
section
/-!
SUPPORT. Statements made once per instruction. The family InTable: the instruction's pair stands in the opcode table
(spec/30_encoding.md rule R108), its encoding has the length of its mode (R101), and its opcode byte selects its form (R109).
-/

namespace Sys2Proof.Laws.InTable

/-- The instruction is a row of the table, of the length of its mode, and its opcode byte is mapped. -/
def Statement (i : Instr) : Prop :=
  i.wellFormed = true ∧ (encode i).length = Machine.modeLength i.mode ∧ (decodeOpcode i.opcode).isSome = true

theorem adcImm (imm : Byte) : Statement (.adcImm imm) := ⟨rfl, rfl, (rfl : (decodeOpcode 0x69#8).isSome = true)⟩
theorem adcZp (zp : Byte) : Statement (.adcZp zp) := ⟨rfl, rfl, (rfl : (decodeOpcode 0x65#8).isSome = true)⟩
theorem adcZpX (zp : Byte) : Statement (.adcZpX zp) := ⟨rfl, rfl, (rfl : (decodeOpcode 0x75#8).isSome = true)⟩
theorem adcAbs (addr : Addr) : Statement (.adcAbs addr) := ⟨rfl, rfl, (rfl : (decodeOpcode 0x6D#8).isSome = true)⟩
theorem adcAbsX (addr : Addr) : Statement (.adcAbsX addr) := ⟨rfl, rfl, (rfl : (decodeOpcode 0x7D#8).isSome = true)⟩
theorem adcAbsY (addr : Addr) : Statement (.adcAbsY addr) := ⟨rfl, rfl, (rfl : (decodeOpcode 0x79#8).isSome = true)⟩
theorem adcIndX (zp : Byte) : Statement (.adcIndX zp) := ⟨rfl, rfl, (rfl : (decodeOpcode 0x61#8).isSome = true)⟩
theorem adcIndY (zp : Byte) : Statement (.adcIndY zp) := ⟨rfl, rfl, (rfl : (decodeOpcode 0x71#8).isSome = true)⟩
theorem sbcImm (imm : Byte) : Statement (.sbcImm imm) := ⟨rfl, rfl, (rfl : (decodeOpcode 0xE9#8).isSome = true)⟩
theorem sbcZp (zp : Byte) : Statement (.sbcZp zp) := ⟨rfl, rfl, (rfl : (decodeOpcode 0xE5#8).isSome = true)⟩
theorem sbcZpX (zp : Byte) : Statement (.sbcZpX zp) := ⟨rfl, rfl, (rfl : (decodeOpcode 0xF5#8).isSome = true)⟩
theorem sbcAbs (addr : Addr) : Statement (.sbcAbs addr) := ⟨rfl, rfl, (rfl : (decodeOpcode 0xED#8).isSome = true)⟩
theorem sbcAbsX (addr : Addr) : Statement (.sbcAbsX addr) := ⟨rfl, rfl, (rfl : (decodeOpcode 0xFD#8).isSome = true)⟩
theorem sbcAbsY (addr : Addr) : Statement (.sbcAbsY addr) := ⟨rfl, rfl, (rfl : (decodeOpcode 0xF9#8).isSome = true)⟩
theorem sbcIndX (zp : Byte) : Statement (.sbcIndX zp) := ⟨rfl, rfl, (rfl : (decodeOpcode 0xE1#8).isSome = true)⟩
theorem sbcIndY (zp : Byte) : Statement (.sbcIndY zp) := ⟨rfl, rfl, (rfl : (decodeOpcode 0xF1#8).isSome = true)⟩
theorem andImm (imm : Byte) : Statement (.andImm imm) := ⟨rfl, rfl, (rfl : (decodeOpcode 0x29#8).isSome = true)⟩
theorem andZp (zp : Byte) : Statement (.andZp zp) := ⟨rfl, rfl, (rfl : (decodeOpcode 0x25#8).isSome = true)⟩
theorem andZpX (zp : Byte) : Statement (.andZpX zp) := ⟨rfl, rfl, (rfl : (decodeOpcode 0x35#8).isSome = true)⟩
theorem andAbs (addr : Addr) : Statement (.andAbs addr) := ⟨rfl, rfl, (rfl : (decodeOpcode 0x2D#8).isSome = true)⟩
theorem andAbsX (addr : Addr) : Statement (.andAbsX addr) := ⟨rfl, rfl, (rfl : (decodeOpcode 0x3D#8).isSome = true)⟩
theorem andAbsY (addr : Addr) : Statement (.andAbsY addr) := ⟨rfl, rfl, (rfl : (decodeOpcode 0x39#8).isSome = true)⟩
theorem andIndX (zp : Byte) : Statement (.andIndX zp) := ⟨rfl, rfl, (rfl : (decodeOpcode 0x21#8).isSome = true)⟩
theorem andIndY (zp : Byte) : Statement (.andIndY zp) := ⟨rfl, rfl, (rfl : (decodeOpcode 0x31#8).isSome = true)⟩
theorem oraImm (imm : Byte) : Statement (.oraImm imm) := ⟨rfl, rfl, (rfl : (decodeOpcode 0x09#8).isSome = true)⟩
theorem oraZp (zp : Byte) : Statement (.oraZp zp) := ⟨rfl, rfl, (rfl : (decodeOpcode 0x05#8).isSome = true)⟩
theorem oraZpX (zp : Byte) : Statement (.oraZpX zp) := ⟨rfl, rfl, (rfl : (decodeOpcode 0x15#8).isSome = true)⟩
theorem oraAbs (addr : Addr) : Statement (.oraAbs addr) := ⟨rfl, rfl, (rfl : (decodeOpcode 0x0D#8).isSome = true)⟩
theorem oraAbsX (addr : Addr) : Statement (.oraAbsX addr) := ⟨rfl, rfl, (rfl : (decodeOpcode 0x1D#8).isSome = true)⟩
theorem oraAbsY (addr : Addr) : Statement (.oraAbsY addr) := ⟨rfl, rfl, (rfl : (decodeOpcode 0x19#8).isSome = true)⟩
theorem oraIndX (zp : Byte) : Statement (.oraIndX zp) := ⟨rfl, rfl, (rfl : (decodeOpcode 0x01#8).isSome = true)⟩
theorem oraIndY (zp : Byte) : Statement (.oraIndY zp) := ⟨rfl, rfl, (rfl : (decodeOpcode 0x11#8).isSome = true)⟩
theorem eorImm (imm : Byte) : Statement (.eorImm imm) := ⟨rfl, rfl, (rfl : (decodeOpcode 0x49#8).isSome = true)⟩
theorem eorZp (zp : Byte) : Statement (.eorZp zp) := ⟨rfl, rfl, (rfl : (decodeOpcode 0x45#8).isSome = true)⟩
theorem eorZpX (zp : Byte) : Statement (.eorZpX zp) := ⟨rfl, rfl, (rfl : (decodeOpcode 0x55#8).isSome = true)⟩
theorem eorAbs (addr : Addr) : Statement (.eorAbs addr) := ⟨rfl, rfl, (rfl : (decodeOpcode 0x4D#8).isSome = true)⟩
theorem eorAbsX (addr : Addr) : Statement (.eorAbsX addr) := ⟨rfl, rfl, (rfl : (decodeOpcode 0x5D#8).isSome = true)⟩
theorem eorAbsY (addr : Addr) : Statement (.eorAbsY addr) := ⟨rfl, rfl, (rfl : (decodeOpcode 0x59#8).isSome = true)⟩
theorem eorIndX (zp : Byte) : Statement (.eorIndX zp) := ⟨rfl, rfl, (rfl : (decodeOpcode 0x41#8).isSome = true)⟩
theorem eorIndY (zp : Byte) : Statement (.eorIndY zp) := ⟨rfl, rfl, (rfl : (decodeOpcode 0x51#8).isSome = true)⟩
theorem bitZp (zp : Byte) : Statement (.bitZp zp) := ⟨rfl, rfl, (rfl : (decodeOpcode 0x24#8).isSome = true)⟩
theorem bitAbs (addr : Addr) : Statement (.bitAbs addr) := ⟨rfl, rfl, (rfl : (decodeOpcode 0x2C#8).isSome = true)⟩
theorem aslAcc : Statement (.aslAcc) := ⟨rfl, rfl, (rfl : (decodeOpcode 0x0A#8).isSome = true)⟩
theorem aslZp (zp : Byte) : Statement (.aslZp zp) := ⟨rfl, rfl, (rfl : (decodeOpcode 0x06#8).isSome = true)⟩
theorem aslZpX (zp : Byte) : Statement (.aslZpX zp) := ⟨rfl, rfl, (rfl : (decodeOpcode 0x16#8).isSome = true)⟩
theorem aslAbs (addr : Addr) : Statement (.aslAbs addr) := ⟨rfl, rfl, (rfl : (decodeOpcode 0x0E#8).isSome = true)⟩
theorem aslAbsX (addr : Addr) : Statement (.aslAbsX addr) := ⟨rfl, rfl, (rfl : (decodeOpcode 0x1E#8).isSome = true)⟩
theorem lsrAcc : Statement (.lsrAcc) := ⟨rfl, rfl, (rfl : (decodeOpcode 0x4A#8).isSome = true)⟩
theorem lsrZp (zp : Byte) : Statement (.lsrZp zp) := ⟨rfl, rfl, (rfl : (decodeOpcode 0x46#8).isSome = true)⟩
theorem lsrZpX (zp : Byte) : Statement (.lsrZpX zp) := ⟨rfl, rfl, (rfl : (decodeOpcode 0x56#8).isSome = true)⟩
theorem lsrAbs (addr : Addr) : Statement (.lsrAbs addr) := ⟨rfl, rfl, (rfl : (decodeOpcode 0x4E#8).isSome = true)⟩
theorem lsrAbsX (addr : Addr) : Statement (.lsrAbsX addr) := ⟨rfl, rfl, (rfl : (decodeOpcode 0x5E#8).isSome = true)⟩
theorem rolAcc : Statement (.rolAcc) := ⟨rfl, rfl, (rfl : (decodeOpcode 0x2A#8).isSome = true)⟩
theorem rolZp (zp : Byte) : Statement (.rolZp zp) := ⟨rfl, rfl, (rfl : (decodeOpcode 0x26#8).isSome = true)⟩
theorem rolZpX (zp : Byte) : Statement (.rolZpX zp) := ⟨rfl, rfl, (rfl : (decodeOpcode 0x36#8).isSome = true)⟩
theorem rolAbs (addr : Addr) : Statement (.rolAbs addr) := ⟨rfl, rfl, (rfl : (decodeOpcode 0x2E#8).isSome = true)⟩
theorem rolAbsX (addr : Addr) : Statement (.rolAbsX addr) := ⟨rfl, rfl, (rfl : (decodeOpcode 0x3E#8).isSome = true)⟩
theorem rorAcc : Statement (.rorAcc) := ⟨rfl, rfl, (rfl : (decodeOpcode 0x6A#8).isSome = true)⟩
theorem rorZp (zp : Byte) : Statement (.rorZp zp) := ⟨rfl, rfl, (rfl : (decodeOpcode 0x66#8).isSome = true)⟩
theorem rorZpX (zp : Byte) : Statement (.rorZpX zp) := ⟨rfl, rfl, (rfl : (decodeOpcode 0x76#8).isSome = true)⟩
theorem rorAbs (addr : Addr) : Statement (.rorAbs addr) := ⟨rfl, rfl, (rfl : (decodeOpcode 0x6E#8).isSome = true)⟩
theorem rorAbsX (addr : Addr) : Statement (.rorAbsX addr) := ⟨rfl, rfl, (rfl : (decodeOpcode 0x7E#8).isSome = true)⟩
theorem cmpImm (imm : Byte) : Statement (.cmpImm imm) := ⟨rfl, rfl, (rfl : (decodeOpcode 0xC9#8).isSome = true)⟩
theorem cmpZp (zp : Byte) : Statement (.cmpZp zp) := ⟨rfl, rfl, (rfl : (decodeOpcode 0xC5#8).isSome = true)⟩
theorem cmpZpX (zp : Byte) : Statement (.cmpZpX zp) := ⟨rfl, rfl, (rfl : (decodeOpcode 0xD5#8).isSome = true)⟩
theorem cmpAbs (addr : Addr) : Statement (.cmpAbs addr) := ⟨rfl, rfl, (rfl : (decodeOpcode 0xCD#8).isSome = true)⟩
theorem cmpAbsX (addr : Addr) : Statement (.cmpAbsX addr) := ⟨rfl, rfl, (rfl : (decodeOpcode 0xDD#8).isSome = true)⟩
theorem cmpAbsY (addr : Addr) : Statement (.cmpAbsY addr) := ⟨rfl, rfl, (rfl : (decodeOpcode 0xD9#8).isSome = true)⟩
theorem cmpIndX (zp : Byte) : Statement (.cmpIndX zp) := ⟨rfl, rfl, (rfl : (decodeOpcode 0xC1#8).isSome = true)⟩
theorem cmpIndY (zp : Byte) : Statement (.cmpIndY zp) := ⟨rfl, rfl, (rfl : (decodeOpcode 0xD1#8).isSome = true)⟩
theorem cpxImm (imm : Byte) : Statement (.cpxImm imm) := ⟨rfl, rfl, (rfl : (decodeOpcode 0xE0#8).isSome = true)⟩
theorem cpxZp (zp : Byte) : Statement (.cpxZp zp) := ⟨rfl, rfl, (rfl : (decodeOpcode 0xE4#8).isSome = true)⟩
theorem cpxAbs (addr : Addr) : Statement (.cpxAbs addr) := ⟨rfl, rfl, (rfl : (decodeOpcode 0xEC#8).isSome = true)⟩
theorem cpyImm (imm : Byte) : Statement (.cpyImm imm) := ⟨rfl, rfl, (rfl : (decodeOpcode 0xC0#8).isSome = true)⟩
theorem cpyZp (zp : Byte) : Statement (.cpyZp zp) := ⟨rfl, rfl, (rfl : (decodeOpcode 0xC4#8).isSome = true)⟩
theorem cpyAbs (addr : Addr) : Statement (.cpyAbs addr) := ⟨rfl, rfl, (rfl : (decodeOpcode 0xCC#8).isSome = true)⟩
theorem bcc (rel : Byte) : Statement (.bcc rel) := ⟨rfl, rfl, (rfl : (decodeOpcode 0x90#8).isSome = true)⟩
theorem bcs (rel : Byte) : Statement (.bcs rel) := ⟨rfl, rfl, (rfl : (decodeOpcode 0xB0#8).isSome = true)⟩
theorem beq (rel : Byte) : Statement (.beq rel) := ⟨rfl, rfl, (rfl : (decodeOpcode 0xF0#8).isSome = true)⟩
theorem bne (rel : Byte) : Statement (.bne rel) := ⟨rfl, rfl, (rfl : (decodeOpcode 0xD0#8).isSome = true)⟩
theorem bmi (rel : Byte) : Statement (.bmi rel) := ⟨rfl, rfl, (rfl : (decodeOpcode 0x30#8).isSome = true)⟩
theorem bpl (rel : Byte) : Statement (.bpl rel) := ⟨rfl, rfl, (rfl : (decodeOpcode 0x10#8).isSome = true)⟩
theorem bvc (rel : Byte) : Statement (.bvc rel) := ⟨rfl, rfl, (rfl : (decodeOpcode 0x50#8).isSome = true)⟩
theorem bvs (rel : Byte) : Statement (.bvs rel) := ⟨rfl, rfl, (rfl : (decodeOpcode 0x70#8).isSome = true)⟩
theorem brk : Statement (.brk) := ⟨rfl, rfl, (rfl : (decodeOpcode 0x00#8).isSome = true)⟩
theorem jsr (addr : Addr) : Statement (.jsr addr) := ⟨rfl, rfl, (rfl : (decodeOpcode 0x20#8).isSome = true)⟩
theorem rts : Statement (.rts) := ⟨rfl, rfl, (rfl : (decodeOpcode 0x60#8).isSome = true)⟩
theorem rti : Statement (.rti) := ⟨rfl, rfl, (rfl : (decodeOpcode 0x40#8).isSome = true)⟩
theorem jmpAbs (addr : Addr) : Statement (.jmpAbs addr) := ⟨rfl, rfl, (rfl : (decodeOpcode 0x4C#8).isSome = true)⟩
theorem jmpInd (addr : Addr) : Statement (.jmpInd addr) := ⟨rfl, rfl, (rfl : (decodeOpcode 0x6C#8).isSome = true)⟩
theorem pha : Statement (.pha) := ⟨rfl, rfl, (rfl : (decodeOpcode 0x48#8).isSome = true)⟩
theorem php : Statement (.php) := ⟨rfl, rfl, (rfl : (decodeOpcode 0x08#8).isSome = true)⟩
theorem pla : Statement (.pla) := ⟨rfl, rfl, (rfl : (decodeOpcode 0x68#8).isSome = true)⟩
theorem plp : Statement (.plp) := ⟨rfl, rfl, (rfl : (decodeOpcode 0x28#8).isSome = true)⟩
theorem inx : Statement (.inx) := ⟨rfl, rfl, (rfl : (decodeOpcode 0xE8#8).isSome = true)⟩
theorem iny : Statement (.iny) := ⟨rfl, rfl, (rfl : (decodeOpcode 0xC8#8).isSome = true)⟩
theorem dex : Statement (.dex) := ⟨rfl, rfl, (rfl : (decodeOpcode 0xCA#8).isSome = true)⟩
theorem dey : Statement (.dey) := ⟨rfl, rfl, (rfl : (decodeOpcode 0x88#8).isSome = true)⟩
theorem clc : Statement (.clc) := ⟨rfl, rfl, (rfl : (decodeOpcode 0x18#8).isSome = true)⟩
theorem cld : Statement (.cld) := ⟨rfl, rfl, (rfl : (decodeOpcode 0xD8#8).isSome = true)⟩
theorem cli : Statement (.cli) := ⟨rfl, rfl, (rfl : (decodeOpcode 0x58#8).isSome = true)⟩
theorem clv : Statement (.clv) := ⟨rfl, rfl, (rfl : (decodeOpcode 0xB8#8).isSome = true)⟩
theorem sec : Statement (.sec) := ⟨rfl, rfl, (rfl : (decodeOpcode 0x38#8).isSome = true)⟩
theorem sed : Statement (.sed) := ⟨rfl, rfl, (rfl : (decodeOpcode 0xF8#8).isSome = true)⟩
theorem sei : Statement (.sei) := ⟨rfl, rfl, (rfl : (decodeOpcode 0x78#8).isSome = true)⟩
theorem tax : Statement (.tax) := ⟨rfl, rfl, (rfl : (decodeOpcode 0xAA#8).isSome = true)⟩
theorem tay : Statement (.tay) := ⟨rfl, rfl, (rfl : (decodeOpcode 0xA8#8).isSome = true)⟩
theorem txa : Statement (.txa) := ⟨rfl, rfl, (rfl : (decodeOpcode 0x8A#8).isSome = true)⟩
theorem tya : Statement (.tya) := ⟨rfl, rfl, (rfl : (decodeOpcode 0x98#8).isSome = true)⟩
theorem tsx : Statement (.tsx) := ⟨rfl, rfl, (rfl : (decodeOpcode 0xBA#8).isSome = true)⟩
theorem txs : Statement (.txs) := ⟨rfl, rfl, (rfl : (decodeOpcode 0x9A#8).isSome = true)⟩
theorem nop : Statement (.nop) := ⟨rfl, rfl, (rfl : (decodeOpcode 0xEA#8).isSome = true)⟩
theorem ldaImm (imm : Byte) : Statement (.ldaImm imm) := ⟨rfl, rfl, (rfl : (decodeOpcode 0xA9#8).isSome = true)⟩
theorem ldaZp (zp : Byte) : Statement (.ldaZp zp) := ⟨rfl, rfl, (rfl : (decodeOpcode 0xA5#8).isSome = true)⟩
theorem ldaZpX (zp : Byte) : Statement (.ldaZpX zp) := ⟨rfl, rfl, (rfl : (decodeOpcode 0xB5#8).isSome = true)⟩
theorem ldaAbs (addr : Addr) : Statement (.ldaAbs addr) := ⟨rfl, rfl, (rfl : (decodeOpcode 0xAD#8).isSome = true)⟩
theorem ldaAbsX (addr : Addr) : Statement (.ldaAbsX addr) := ⟨rfl, rfl, (rfl : (decodeOpcode 0xBD#8).isSome = true)⟩
theorem ldaAbsY (addr : Addr) : Statement (.ldaAbsY addr) := ⟨rfl, rfl, (rfl : (decodeOpcode 0xB9#8).isSome = true)⟩
theorem ldaIndX (zp : Byte) : Statement (.ldaIndX zp) := ⟨rfl, rfl, (rfl : (decodeOpcode 0xA1#8).isSome = true)⟩
theorem ldaIndY (zp : Byte) : Statement (.ldaIndY zp) := ⟨rfl, rfl, (rfl : (decodeOpcode 0xB1#8).isSome = true)⟩
theorem ldxImm (imm : Byte) : Statement (.ldxImm imm) := ⟨rfl, rfl, (rfl : (decodeOpcode 0xA2#8).isSome = true)⟩
theorem ldxZp (zp : Byte) : Statement (.ldxZp zp) := ⟨rfl, rfl, (rfl : (decodeOpcode 0xA6#8).isSome = true)⟩
theorem ldxZpY (zp : Byte) : Statement (.ldxZpY zp) := ⟨rfl, rfl, (rfl : (decodeOpcode 0xB6#8).isSome = true)⟩
theorem ldxAbs (addr : Addr) : Statement (.ldxAbs addr) := ⟨rfl, rfl, (rfl : (decodeOpcode 0xAE#8).isSome = true)⟩
theorem ldxAbsY (addr : Addr) : Statement (.ldxAbsY addr) := ⟨rfl, rfl, (rfl : (decodeOpcode 0xBE#8).isSome = true)⟩
theorem ldyImm (imm : Byte) : Statement (.ldyImm imm) := ⟨rfl, rfl, (rfl : (decodeOpcode 0xA0#8).isSome = true)⟩
theorem ldyZp (zp : Byte) : Statement (.ldyZp zp) := ⟨rfl, rfl, (rfl : (decodeOpcode 0xA4#8).isSome = true)⟩
theorem ldyZpX (zp : Byte) : Statement (.ldyZpX zp) := ⟨rfl, rfl, (rfl : (decodeOpcode 0xB4#8).isSome = true)⟩
theorem ldyAbs (addr : Addr) : Statement (.ldyAbs addr) := ⟨rfl, rfl, (rfl : (decodeOpcode 0xAC#8).isSome = true)⟩
theorem ldyAbsX (addr : Addr) : Statement (.ldyAbsX addr) := ⟨rfl, rfl, (rfl : (decodeOpcode 0xBC#8).isSome = true)⟩
theorem staZp (zp : Byte) : Statement (.staZp zp) := ⟨rfl, rfl, (rfl : (decodeOpcode 0x85#8).isSome = true)⟩
theorem staZpX (zp : Byte) : Statement (.staZpX zp) := ⟨rfl, rfl, (rfl : (decodeOpcode 0x95#8).isSome = true)⟩
theorem staAbs (addr : Addr) : Statement (.staAbs addr) := ⟨rfl, rfl, (rfl : (decodeOpcode 0x8D#8).isSome = true)⟩
theorem staAbsX (addr : Addr) : Statement (.staAbsX addr) := ⟨rfl, rfl, (rfl : (decodeOpcode 0x9D#8).isSome = true)⟩
theorem staAbsY (addr : Addr) : Statement (.staAbsY addr) := ⟨rfl, rfl, (rfl : (decodeOpcode 0x99#8).isSome = true)⟩
theorem staIndX (zp : Byte) : Statement (.staIndX zp) := ⟨rfl, rfl, (rfl : (decodeOpcode 0x81#8).isSome = true)⟩
theorem staIndY (zp : Byte) : Statement (.staIndY zp) := ⟨rfl, rfl, (rfl : (decodeOpcode 0x91#8).isSome = true)⟩
theorem stxZp (zp : Byte) : Statement (.stxZp zp) := ⟨rfl, rfl, (rfl : (decodeOpcode 0x86#8).isSome = true)⟩
theorem stxZpY (zp : Byte) : Statement (.stxZpY zp) := ⟨rfl, rfl, (rfl : (decodeOpcode 0x96#8).isSome = true)⟩
theorem stxAbs (addr : Addr) : Statement (.stxAbs addr) := ⟨rfl, rfl, (rfl : (decodeOpcode 0x8E#8).isSome = true)⟩
theorem styZp (zp : Byte) : Statement (.styZp zp) := ⟨rfl, rfl, (rfl : (decodeOpcode 0x84#8).isSome = true)⟩
theorem styZpX (zp : Byte) : Statement (.styZpX zp) := ⟨rfl, rfl, (rfl : (decodeOpcode 0x94#8).isSome = true)⟩
theorem styAbs (addr : Addr) : Statement (.styAbs addr) := ⟨rfl, rfl, (rfl : (decodeOpcode 0x8C#8).isSome = true)⟩
theorem incZp (zp : Byte) : Statement (.incZp zp) := ⟨rfl, rfl, (rfl : (decodeOpcode 0xE6#8).isSome = true)⟩
theorem incZpX (zp : Byte) : Statement (.incZpX zp) := ⟨rfl, rfl, (rfl : (decodeOpcode 0xF6#8).isSome = true)⟩
theorem incAbs (addr : Addr) : Statement (.incAbs addr) := ⟨rfl, rfl, (rfl : (decodeOpcode 0xEE#8).isSome = true)⟩
theorem incAbsX (addr : Addr) : Statement (.incAbsX addr) := ⟨rfl, rfl, (rfl : (decodeOpcode 0xFE#8).isSome = true)⟩
theorem decZp (zp : Byte) : Statement (.decZp zp) := ⟨rfl, rfl, (rfl : (decodeOpcode 0xC6#8).isSome = true)⟩
theorem decZpX (zp : Byte) : Statement (.decZpX zp) := ⟨rfl, rfl, (rfl : (decodeOpcode 0xD6#8).isSome = true)⟩
theorem decAbs (addr : Addr) : Statement (.decAbs addr) := ⟨rfl, rfl, (rfl : (decodeOpcode 0xCE#8).isSome = true)⟩
theorem decAbsX (addr : Addr) : Statement (.decAbsX addr) := ⟨rfl, rfl, (rfl : (decodeOpcode 0xDE#8).isSome = true)⟩

end Sys2Proof.Laws.InTable
end

