-- ==== Sys2Proof/Tests/Slice0.lean ====
section
/-!
SUPPORT. Tests. Expected values come from the spec: the words of spec/30_encoding.md rule R108 in the formats of R102 to R104,
the vectors V<n> of spec/95_test_vectors.md, and hand calculation from the rules named. The last part holds, for each statement
with hypotheses, a state and operands that meet them.
-/

open Sys2Proof Sys2Proof.Machine Sys2Proof.Claims

namespace Sys2Proof.Tests

/-! The helpers: a state with registers and bytes as a vector gives them, and what a completed step is compared with. -/

/-- The state a vector starts from: every register written, the bytes listed in memory. -/
def start (a x y sp p : Byte) (pc : Addr) (cells : List (Addr × Byte)) : State :=
  { State.reset with
    a := a, x := x, y := y, sp := sp, p := p, pc := pc, aWritten := true, xWritten := true, yWritten := true
    bus := { mem := cells.foldl (fun m c => Memory.write m c.1 c.2) [], regions := [], seen := [], log := [] } }

/-- The writes of a bus log, in order. -/
def writes (log : List Access) : List (Addr × Byte) :=
  log.filterMap fun x => match x with
    | .write c v => some (c, v)
    | .read _ _ => none

/-- The registers of a state are these, and its log holds these writes. -/
def holds (t : State) (a x y sp p : Byte) (pc : Addr) (ws : List (Addr × Byte)) : Bool :=
  t.a == a && t.x == x && t.y == y && t.sp == sp && t.p == p && t.pc == pc && writes t.bus.log == ws

/-- The step completed with these registers, this StepResult and these bus writes. -/
def ends (o : Out) (a x y sp p : Byte) (pc : Addr) (length : Nat) (jumped : Bool) (ws : List (Addr × Byte)) : Bool :=
  match o with
  | .next t => holds t a x y sp p pc ws && t.result == some { length := length, jumped := jumped }
  | .fault _ => false
  | .refused _ => false

/-- The step ended with this fault. -/
def faults (o : Out) (r : Fault) : Bool :=
  match o with
  | .fault q => q == r
  | .next _ => false
  | .refused _ => false

/-- The step completed. -/
def completes (o : Out) : Bool :=
  match o with
  | .next _ => true
  | .fault _ => false
  | .refused _ => false

/-! WellFormed (R108: "an empty cell means the pair does not exist and spells no instruction"). -/

/-- Pairs of an empty cell are refused. -/
theorem test_ill_formed_pairs :
    pairWellFormed .bit .immediate = false ∧ pairWellFormed .sta .immediate = false ∧
    pairWellFormed .jmp .relative = false ∧ pairWellFormed .ldx .zeroPageX = false ∧
    pairWellFormed .stx .absoluteY = false ∧ pairWellFormed .lda .zeroPageY = false ∧
    pairWellFormed .inc .accumulator = false ∧ pairWellFormed .asl .immediate = false ∧
    pairWellFormed .bne .absolute = false ∧ pairWellFormed .jsr .indirect = false ∧
    pairWellFormed .nop .immediate = false ∧ pairWellFormed .cpx .zeroPageX = false := by decide

/-- Pairs of a filled cell are not. -/
theorem test_well_formed_pairs :
    pairWellFormed .ldx .zeroPageY = true ∧ pairWellFormed .jmp .indirect = true ∧
    Instr.wellFormed (.staIndY 0x10#8) = true ∧ Instr.wellFormed (.beq 0xFD#8) = true := by decide

/-! Decoding: every constructor by its word, written out from R108: the opcode in bits 7 to 0, `imm8`, `zp8` or `rel8` in bits
15 to 8, `addr16` low byte first in bits 23 to 8. -/

theorem test_decode_adc :
    decodeTableWord 16 0xA569 = some (.adcImm 0xA5#8) ∧
    decodeTableWord 16 0xA565 = some (.adcZp 0xA5#8) ∧
    decodeTableWord 16 0xA575 = some (.adcZpX 0xA5#8) ∧
    decodeTableWord 24 0x12346D = some (.adcAbs 0x1234#16) ∧
    decodeTableWord 24 0x12347D = some (.adcAbsX 0x1234#16) ∧
    decodeTableWord 24 0x123479 = some (.adcAbsY 0x1234#16) ∧
    decodeTableWord 16 0xA561 = some (.adcIndX 0xA5#8) ∧
    decodeTableWord 16 0xA571 = some (.adcIndY 0xA5#8) := by decide

theorem test_decode_and :
    decodeTableWord 16 0xA529 = some (.andImm 0xA5#8) ∧
    decodeTableWord 16 0xA525 = some (.andZp 0xA5#8) ∧
    decodeTableWord 16 0xA535 = some (.andZpX 0xA5#8) ∧
    decodeTableWord 24 0x12342D = some (.andAbs 0x1234#16) ∧
    decodeTableWord 24 0x12343D = some (.andAbsX 0x1234#16) ∧
    decodeTableWord 24 0x123439 = some (.andAbsY 0x1234#16) ∧
    decodeTableWord 16 0xA521 = some (.andIndX 0xA5#8) ∧
    decodeTableWord 16 0xA531 = some (.andIndY 0xA5#8) := by decide

theorem test_decode_asl :
    decodeTableWord 8 0x0A = some .aslAcc ∧
    decodeTableWord 16 0xA506 = some (.aslZp 0xA5#8) ∧
    decodeTableWord 16 0xA516 = some (.aslZpX 0xA5#8) ∧
    decodeTableWord 24 0x12340E = some (.aslAbs 0x1234#16) ∧
    decodeTableWord 24 0x12341E = some (.aslAbsX 0x1234#16) := by decide

theorem test_decode_bcc :
    decodeTableWord 16 0xA590 = some (.bcc 0xA5#8) := by decide

theorem test_decode_bcs :
    decodeTableWord 16 0xA5B0 = some (.bcs 0xA5#8) := by decide

theorem test_decode_beq :
    decodeTableWord 16 0xA5F0 = some (.beq 0xA5#8) := by decide

theorem test_decode_bit :
    decodeTableWord 16 0xA524 = some (.bitZp 0xA5#8) ∧
    decodeTableWord 24 0x12342C = some (.bitAbs 0x1234#16) := by decide

theorem test_decode_bmi :
    decodeTableWord 16 0xA530 = some (.bmi 0xA5#8) := by decide

theorem test_decode_bne :
    decodeTableWord 16 0xA5D0 = some (.bne 0xA5#8) := by decide

theorem test_decode_bpl :
    decodeTableWord 16 0xA510 = some (.bpl 0xA5#8) := by decide

theorem test_decode_brk :
    decodeTableWord 8 0x00 = some .brk := by decide

theorem test_decode_bvc :
    decodeTableWord 16 0xA550 = some (.bvc 0xA5#8) := by decide

theorem test_decode_bvs :
    decodeTableWord 16 0xA570 = some (.bvs 0xA5#8) := by decide

theorem test_decode_clc :
    decodeTableWord 8 0x18 = some .clc := by decide

theorem test_decode_cld :
    decodeTableWord 8 0xD8 = some .cld := by decide

theorem test_decode_cli :
    decodeTableWord 8 0x58 = some .cli := by decide

theorem test_decode_clv :
    decodeTableWord 8 0xB8 = some .clv := by decide

theorem test_decode_cmp :
    decodeTableWord 16 0xA5C9 = some (.cmpImm 0xA5#8) ∧
    decodeTableWord 16 0xA5C5 = some (.cmpZp 0xA5#8) ∧
    decodeTableWord 16 0xA5D5 = some (.cmpZpX 0xA5#8) ∧
    decodeTableWord 24 0x1234CD = some (.cmpAbs 0x1234#16) ∧
    decodeTableWord 24 0x1234DD = some (.cmpAbsX 0x1234#16) ∧
    decodeTableWord 24 0x1234D9 = some (.cmpAbsY 0x1234#16) ∧
    decodeTableWord 16 0xA5C1 = some (.cmpIndX 0xA5#8) ∧
    decodeTableWord 16 0xA5D1 = some (.cmpIndY 0xA5#8) := by decide

theorem test_decode_cpx :
    decodeTableWord 16 0xA5E0 = some (.cpxImm 0xA5#8) ∧
    decodeTableWord 16 0xA5E4 = some (.cpxZp 0xA5#8) ∧
    decodeTableWord 24 0x1234EC = some (.cpxAbs 0x1234#16) := by decide

theorem test_decode_cpy :
    decodeTableWord 16 0xA5C0 = some (.cpyImm 0xA5#8) ∧
    decodeTableWord 16 0xA5C4 = some (.cpyZp 0xA5#8) ∧
    decodeTableWord 24 0x1234CC = some (.cpyAbs 0x1234#16) := by decide

theorem test_decode_dec :
    decodeTableWord 16 0xA5C6 = some (.decZp 0xA5#8) ∧
    decodeTableWord 16 0xA5D6 = some (.decZpX 0xA5#8) ∧
    decodeTableWord 24 0x1234CE = some (.decAbs 0x1234#16) ∧
    decodeTableWord 24 0x1234DE = some (.decAbsX 0x1234#16) := by decide

theorem test_decode_dex :
    decodeTableWord 8 0xCA = some .dex := by decide

theorem test_decode_dey :
    decodeTableWord 8 0x88 = some .dey := by decide

theorem test_decode_eor :
    decodeTableWord 16 0xA549 = some (.eorImm 0xA5#8) ∧
    decodeTableWord 16 0xA545 = some (.eorZp 0xA5#8) ∧
    decodeTableWord 16 0xA555 = some (.eorZpX 0xA5#8) ∧
    decodeTableWord 24 0x12344D = some (.eorAbs 0x1234#16) ∧
    decodeTableWord 24 0x12345D = some (.eorAbsX 0x1234#16) ∧
    decodeTableWord 24 0x123459 = some (.eorAbsY 0x1234#16) ∧
    decodeTableWord 16 0xA541 = some (.eorIndX 0xA5#8) ∧
    decodeTableWord 16 0xA551 = some (.eorIndY 0xA5#8) := by decide

theorem test_decode_inc :
    decodeTableWord 16 0xA5E6 = some (.incZp 0xA5#8) ∧
    decodeTableWord 16 0xA5F6 = some (.incZpX 0xA5#8) ∧
    decodeTableWord 24 0x1234EE = some (.incAbs 0x1234#16) ∧
    decodeTableWord 24 0x1234FE = some (.incAbsX 0x1234#16) := by decide

theorem test_decode_inx :
    decodeTableWord 8 0xE8 = some .inx := by decide

theorem test_decode_iny :
    decodeTableWord 8 0xC8 = some .iny := by decide

theorem test_decode_jmp :
    decodeTableWord 24 0x12344C = some (.jmpAbs 0x1234#16) ∧
    decodeTableWord 24 0x12346C = some (.jmpInd 0x1234#16) := by decide

theorem test_decode_jsr :
    decodeTableWord 24 0x123420 = some (.jsr 0x1234#16) := by decide

theorem test_decode_lda :
    decodeTableWord 16 0xA5A9 = some (.ldaImm 0xA5#8) ∧
    decodeTableWord 16 0xA5A5 = some (.ldaZp 0xA5#8) ∧
    decodeTableWord 16 0xA5B5 = some (.ldaZpX 0xA5#8) ∧
    decodeTableWord 24 0x1234AD = some (.ldaAbs 0x1234#16) ∧
    decodeTableWord 24 0x1234BD = some (.ldaAbsX 0x1234#16) ∧
    decodeTableWord 24 0x1234B9 = some (.ldaAbsY 0x1234#16) ∧
    decodeTableWord 16 0xA5A1 = some (.ldaIndX 0xA5#8) ∧
    decodeTableWord 16 0xA5B1 = some (.ldaIndY 0xA5#8) := by decide

theorem test_decode_ldx :
    decodeTableWord 16 0xA5A2 = some (.ldxImm 0xA5#8) ∧
    decodeTableWord 16 0xA5A6 = some (.ldxZp 0xA5#8) ∧
    decodeTableWord 16 0xA5B6 = some (.ldxZpY 0xA5#8) ∧
    decodeTableWord 24 0x1234AE = some (.ldxAbs 0x1234#16) ∧
    decodeTableWord 24 0x1234BE = some (.ldxAbsY 0x1234#16) := by decide

theorem test_decode_ldy :
    decodeTableWord 16 0xA5A0 = some (.ldyImm 0xA5#8) ∧
    decodeTableWord 16 0xA5A4 = some (.ldyZp 0xA5#8) ∧
    decodeTableWord 16 0xA5B4 = some (.ldyZpX 0xA5#8) ∧
    decodeTableWord 24 0x1234AC = some (.ldyAbs 0x1234#16) ∧
    decodeTableWord 24 0x1234BC = some (.ldyAbsX 0x1234#16) := by decide

theorem test_decode_lsr :
    decodeTableWord 8 0x4A = some .lsrAcc ∧
    decodeTableWord 16 0xA546 = some (.lsrZp 0xA5#8) ∧
    decodeTableWord 16 0xA556 = some (.lsrZpX 0xA5#8) ∧
    decodeTableWord 24 0x12344E = some (.lsrAbs 0x1234#16) ∧
    decodeTableWord 24 0x12345E = some (.lsrAbsX 0x1234#16) := by decide

theorem test_decode_nop :
    decodeTableWord 8 0xEA = some .nop := by decide

theorem test_decode_ora :
    decodeTableWord 16 0xA509 = some (.oraImm 0xA5#8) ∧
    decodeTableWord 16 0xA505 = some (.oraZp 0xA5#8) ∧
    decodeTableWord 16 0xA515 = some (.oraZpX 0xA5#8) ∧
    decodeTableWord 24 0x12340D = some (.oraAbs 0x1234#16) ∧
    decodeTableWord 24 0x12341D = some (.oraAbsX 0x1234#16) ∧
    decodeTableWord 24 0x123419 = some (.oraAbsY 0x1234#16) ∧
    decodeTableWord 16 0xA501 = some (.oraIndX 0xA5#8) ∧
    decodeTableWord 16 0xA511 = some (.oraIndY 0xA5#8) := by decide

theorem test_decode_pha :
    decodeTableWord 8 0x48 = some .pha := by decide

theorem test_decode_php :
    decodeTableWord 8 0x08 = some .php := by decide

theorem test_decode_pla :
    decodeTableWord 8 0x68 = some .pla := by decide

theorem test_decode_plp :
    decodeTableWord 8 0x28 = some .plp := by decide

theorem test_decode_rol :
    decodeTableWord 8 0x2A = some .rolAcc ∧
    decodeTableWord 16 0xA526 = some (.rolZp 0xA5#8) ∧
    decodeTableWord 16 0xA536 = some (.rolZpX 0xA5#8) ∧
    decodeTableWord 24 0x12342E = some (.rolAbs 0x1234#16) ∧
    decodeTableWord 24 0x12343E = some (.rolAbsX 0x1234#16) := by decide

theorem test_decode_ror :
    decodeTableWord 8 0x6A = some .rorAcc ∧
    decodeTableWord 16 0xA566 = some (.rorZp 0xA5#8) ∧
    decodeTableWord 16 0xA576 = some (.rorZpX 0xA5#8) ∧
    decodeTableWord 24 0x12346E = some (.rorAbs 0x1234#16) ∧
    decodeTableWord 24 0x12347E = some (.rorAbsX 0x1234#16) := by decide

theorem test_decode_rti :
    decodeTableWord 8 0x40 = some .rti := by decide

theorem test_decode_rts :
    decodeTableWord 8 0x60 = some .rts := by decide

theorem test_decode_sbc :
    decodeTableWord 16 0xA5E9 = some (.sbcImm 0xA5#8) ∧
    decodeTableWord 16 0xA5E5 = some (.sbcZp 0xA5#8) ∧
    decodeTableWord 16 0xA5F5 = some (.sbcZpX 0xA5#8) ∧
    decodeTableWord 24 0x1234ED = some (.sbcAbs 0x1234#16) ∧
    decodeTableWord 24 0x1234FD = some (.sbcAbsX 0x1234#16) ∧
    decodeTableWord 24 0x1234F9 = some (.sbcAbsY 0x1234#16) ∧
    decodeTableWord 16 0xA5E1 = some (.sbcIndX 0xA5#8) ∧
    decodeTableWord 16 0xA5F1 = some (.sbcIndY 0xA5#8) := by decide

theorem test_decode_sec :
    decodeTableWord 8 0x38 = some .sec := by decide

theorem test_decode_sed :
    decodeTableWord 8 0xF8 = some .sed := by decide

theorem test_decode_sei :
    decodeTableWord 8 0x78 = some .sei := by decide

theorem test_decode_sta :
    decodeTableWord 16 0xA585 = some (.staZp 0xA5#8) ∧
    decodeTableWord 16 0xA595 = some (.staZpX 0xA5#8) ∧
    decodeTableWord 24 0x12348D = some (.staAbs 0x1234#16) ∧
    decodeTableWord 24 0x12349D = some (.staAbsX 0x1234#16) ∧
    decodeTableWord 24 0x123499 = some (.staAbsY 0x1234#16) ∧
    decodeTableWord 16 0xA581 = some (.staIndX 0xA5#8) ∧
    decodeTableWord 16 0xA591 = some (.staIndY 0xA5#8) := by decide

theorem test_decode_stx :
    decodeTableWord 16 0xA586 = some (.stxZp 0xA5#8) ∧
    decodeTableWord 16 0xA596 = some (.stxZpY 0xA5#8) ∧
    decodeTableWord 24 0x12348E = some (.stxAbs 0x1234#16) := by decide

theorem test_decode_sty :
    decodeTableWord 16 0xA584 = some (.styZp 0xA5#8) ∧
    decodeTableWord 16 0xA594 = some (.styZpX 0xA5#8) ∧
    decodeTableWord 24 0x12348C = some (.styAbs 0x1234#16) := by decide

theorem test_decode_tax :
    decodeTableWord 8 0xAA = some .tax := by decide

theorem test_decode_tay :
    decodeTableWord 8 0xA8 = some .tay := by decide

theorem test_decode_tsx :
    decodeTableWord 8 0xBA = some .tsx := by decide

theorem test_decode_txa :
    decodeTableWord 8 0x8A = some .txa := by decide

theorem test_decode_txs :
    decodeTableWord 8 0x9A = some .txs := by decide

theorem test_decode_tya :
    decodeTableWord 8 0x98 = some .tya := by decide

/-- Unmapped bytes decode to nothing (R109), and a byte that is missing is no instruction. -/
theorem test_decode_refuses :
    decodeTableWord 8 0x02 = none ∧ decodeTableWord 8 0xFF = none ∧ decodeTableWord 16 0x01EB = none ∧
    decode [0x02#8, 0x11#8] = .error (.unimplementedOpcode 0x02#8) ∧ decode [0x4C#8, 0x34#8] = .error (.truncated 0x4C#8) ∧
    decode [] = .error .noBytes := by decide

/-- The encoder on one instruction of each format (R102 to R104). -/
theorem test_encode :
    encode .nop = [0xEA#8] ∧ encode (.beq 0xFD#8) = [0xF0#8, 0xFD#8] ∧ encode (.jmpInd 0x30FF#16) = [0x6C#8, 0xFF#8, 0x30#8] := by
  decide

/-! One step each, from the vectors of 95_test_vectors.md section 2. -/

/-- V1, V2, V3, V4: ADC #$50; ADC #$01; ADC #$00; ADC #$80. -/
theorem test_step_adc :
    ends (step (start 0x50 0x00 0x00 0xFD 0x24 0x0200 [(0x0200, 0x69), (0x0201, 0x50)]))
      0xA0 0x00 0x00 0xFD 0xE4 0x0202 2 false [] = true ∧
    ends (step (start 0xFF 0x00 0x00 0xFD 0x24 0x0200 [(0x0200, 0x69), (0x0201, 0x01)]))
      0x00 0x00 0x00 0xFD 0x27 0x0202 2 false [] = true ∧
    ends (step (start 0x7F 0x00 0x00 0xFD 0x25 0x0200 [(0x0200, 0x69), (0x0201, 0x00)]))
      0x80 0x00 0x00 0xFD 0xE4 0x0202 2 false [] = true ∧
    ends (step (start 0x80 0x00 0x00 0xFD 0x24 0x0200 [(0x0200, 0x69), (0x0201, 0x80)]))
      0x00 0x00 0x00 0xFD 0x67 0x0202 2 false [] = true := by decide

/-- V5, V6, V13: ADC #$FF; ADC #$01; ADC $10. -/
theorem test_step_adc_more :
    ends (step (start 0xFF 0x00 0x00 0xFD 0x25 0x0200 [(0x0200, 0x69), (0x0201, 0xFF)]))
      0xFF 0x00 0x00 0xFD 0xA5 0x0202 2 false [] = true ∧
    ends (step (start 0x09 0x00 0x00 0xFD 0x2C 0x0200 [(0x0200, 0x69), (0x0201, 0x01)]))
      0x0A 0x00 0x00 0xFD 0x2C 0x0202 2 false [] = true ∧
    ends (step (start 0x01 0x00 0x00 0xFD 0x24 0x0200 [(0x0200, 0x65), (0x0201, 0x10), (0x0010, 0x02)]))
      0x03 0x00 0x00 0xFD 0x24 0x0202 2 false [] = true := by decide

/-- V7, V8, V9: SBC #$F0; SBC #$B0; SBC #$01. -/
theorem test_step_sbc :
    ends (step (start 0x50 0x00 0x00 0xFD 0x25 0x0200 [(0x0200, 0xE9), (0x0201, 0xF0)]))
      0x60 0x00 0x00 0xFD 0x24 0x0202 2 false [] = true ∧
    ends (step (start 0x50 0x00 0x00 0xFD 0x25 0x0200 [(0x0200, 0xE9), (0x0201, 0xB0)]))
      0xA0 0x00 0x00 0xFD 0xE4 0x0202 2 false [] = true ∧
    ends (step (start 0x00 0x00 0x00 0xFD 0x25 0x0200 [(0x0200, 0xE9), (0x0201, 0x01)]))
      0xFF 0x00 0x00 0xFD 0xA4 0x0202 2 false [] = true := by decide

/-- V10, V11, V12: SBC #$05; SBC #$04; SBC #$01. -/
theorem test_step_sbc_more :
    ends (step (start 0x05 0x00 0x00 0xFD 0x25 0x0200 [(0x0200, 0xE9), (0x0201, 0x05)]))
      0x00 0x00 0x00 0xFD 0x27 0x0202 2 false [] = true ∧
    ends (step (start 0x05 0x00 0x00 0xFD 0x24 0x0200 [(0x0200, 0xE9), (0x0201, 0x04)]))
      0x00 0x00 0x00 0xFD 0x27 0x0202 2 false [] = true ∧
    ends (step (start 0x80 0x00 0x00 0xFD 0x25 0x0200 [(0x0200, 0xE9), (0x0201, 0x01)]))
      0x7F 0x00 0x00 0xFD 0x65 0x0202 2 false [] = true := by decide

/-- V20, V21: AND #$0F. -/
theorem test_step_and :
    ends (step (start 0xF3 0x00 0x00 0xFD 0x24 0x0200 [(0x0200, 0x29), (0x0201, 0x0F)]))
      0x03 0x00 0x00 0xFD 0x24 0x0202 2 false [] = true ∧
    ends (step (start 0xF0 0x00 0x00 0xFD 0x24 0x0200 [(0x0200, 0x29), (0x0201, 0x0F)]))
      0x00 0x00 0x00 0xFD 0x26 0x0202 2 false [] = true := by decide

/-- V22: ORA #$80. -/
theorem test_step_ora :
    ends (step (start 0x01 0x00 0x00 0xFD 0x24 0x0200 [(0x0200, 0x09), (0x0201, 0x80)]))
      0x81 0x00 0x00 0xFD 0xA4 0x0202 2 false [] = true := by decide

/-- V23: EOR #$FF. -/
theorem test_step_eor :
    ends (step (start 0xFF 0x00 0x00 0xFD 0xA4 0x0200 [(0x0200, 0x49), (0x0201, 0xFF)]))
      0x00 0x00 0x00 0xFD 0x26 0x0202 2 false [] = true := by decide

/-- V24, V25: BIT $10; BIT $1234. -/
theorem test_step_bit :
    ends (step (start 0x0F 0x00 0x00 0xFD 0x24 0x0200 [(0x0200, 0x24), (0x0201, 0x10), (0x0010, 0xC0)]))
      0x0F 0x00 0x00 0xFD 0xE6 0x0202 2 false [] = true ∧
    ends (step (start 0x01 0x00 0x00 0xFD 0xE4 0x0200 [(0x0200, 0x2C), (0x0201, 0x34), (0x0202, 0x12), (0x1234, 0x01)]))
      0x01 0x00 0x00 0xFD 0x24 0x0203 3 false [] = true := by decide

/-- V30, V31, V36: ASL A; ASL $10. -/
theorem test_step_asl :
    ends (step (start 0x80 0x00 0x00 0xFD 0x24 0x0200 [(0x0200, 0x0A)]))
      0x00 0x00 0x00 0xFD 0x27 0x0201 1 false [] = true ∧
    ends (step (start 0x41 0x00 0x00 0xFD 0x25 0x0200 [(0x0200, 0x0A)]))
      0x82 0x00 0x00 0xFD 0xA4 0x0201 1 false [] = true ∧
    ends (step (start 0x00 0x00 0x00 0xFD 0x24 0x0200 [(0x0200, 0x06), (0x0201, 0x10), (0x0010, 0xC0)]))
      0x00 0x00 0x00 0xFD 0xA5 0x0202 2 false [(0x0010, 0x80)] = true := by decide

/-- V32, V38: LSR A; LSR $1234,X. -/
theorem test_step_lsr :
    ends (step (start 0x01 0x00 0x00 0xFD 0xA4 0x0200 [(0x0200, 0x4A)]))
      0x00 0x00 0x00 0xFD 0x27 0x0201 1 false [] = true ∧
    ends (step (start 0x00 0x01 0x00 0xFD 0x24 0x0200 [(0x0200, 0x5E), (0x0201, 0x34), (0x0202, 0x12), (0x1235, 0x03)]))
      0x00 0x01 0x00 0xFD 0x25 0x0203 3 false [(0x1235, 0x01)] = true := by decide

/-- V33: ROL A. -/
theorem test_step_rol :
    ends (step (start 0x80 0x00 0x00 0xFD 0x25 0x0200 [(0x0200, 0x2A)]))
      0x01 0x00 0x00 0xFD 0x25 0x0201 1 false [] = true := by decide

/-- V34, V35, V37: ROR A; ROR $FF,X. -/
theorem test_step_ror :
    ends (step (start 0x01 0x00 0x00 0xFD 0x25 0x0200 [(0x0200, 0x6A)]))
      0x80 0x00 0x00 0xFD 0xA5 0x0201 1 false [] = true ∧
    ends (step (start 0x02 0x00 0x00 0xFD 0x24 0x0200 [(0x0200, 0x6A)]))
      0x01 0x00 0x00 0xFD 0x24 0x0201 1 false [] = true ∧
    ends (step (start 0x00 0x02 0x00 0xFD 0x25 0x0200 [(0x0200, 0x76), (0x0201, 0xFF), (0x0001, 0x02)]))
      0x00 0x02 0x00 0xFD 0xA4 0x0202 2 false [(0x0001, 0x81)] = true := by decide

/-- V40, V41: CMP #$01; CMP #$42. -/
theorem test_step_cmp :
    ends (step (start 0xFF 0x00 0x00 0xFD 0x24 0x0200 [(0x0200, 0xC9), (0x0201, 0x01)]))
      0xFF 0x00 0x00 0xFD 0xA5 0x0202 2 false [] = true ∧
    ends (step (start 0x42 0x00 0x00 0xFD 0x24 0x0200 [(0x0200, 0xC9), (0x0201, 0x42)]))
      0x42 0x00 0x00 0xFD 0x27 0x0202 2 false [] = true := by decide

/-- V42, V43: CMP #$42; CMP #$01. -/
theorem test_step_cmp_more :
    ends (step (start 0x41 0x00 0x00 0xFD 0x25 0x0200 [(0x0200, 0xC9), (0x0201, 0x42)]))
      0x41 0x00 0x00 0xFD 0xA4 0x0202 2 false [] = true ∧
    ends (step (start 0x80 0x00 0x00 0xFD 0x24 0x0200 [(0x0200, 0xC9), (0x0201, 0x01)]))
      0x80 0x00 0x00 0xFD 0x25 0x0202 2 false [] = true := by decide

/-- V44, V46: CPX #$10; CPX $1234. -/
theorem test_step_cpx :
    ends (step (start 0x00 0x20 0x00 0xFD 0x24 0x0200 [(0x0200, 0xE0), (0x0201, 0x10)]))
      0x00 0x20 0x00 0xFD 0x25 0x0202 2 false [] = true ∧
    ends (step (start 0x00 0xFF 0x00 0xFD 0x24 0x0200 [(0x0200, 0xEC), (0x0201, 0x34), (0x0202, 0x12), (0x1234, 0xFF)]))
      0x00 0xFF 0x00 0xFD 0x27 0x0203 3 false [] = true := by decide

/-- V45: CPY $10. -/
theorem test_step_cpy :
    ends (step (start 0x00 0x00 0x00 0xFD 0x27 0x0200 [(0x0200, 0xC4), (0x0201, 0x10), (0x0010, 0x01)]))
      0x00 0x00 0x00 0xFD 0xA4 0x0202 2 false [] = true := by decide

/-- V50, V51: BEQ *-1; BEQ. -/
theorem test_step_beq :
    ends (step (start 0x00 0x00 0x00 0xFD 0x26 0x8000 [(0x8000, 0xF0), (0x8001, 0xFD)]))
      0x00 0x00 0x00 0xFD 0x26 0x7FFF 2 true [] = true ∧
    ends (step (start 0x00 0x00 0x00 0xFD 0x24 0x8000 [(0x8000, 0xF0), (0x8001, 0xFD)]))
      0x00 0x00 0x00 0xFD 0x24 0x8002 2 false [] = true := by decide

/-- V52, V53, V61: BNE. -/
theorem test_step_bne :
    ends (step (start 0x00 0x00 0x00 0xFD 0x24 0x0200 [(0x0200, 0xD0), (0x0201, 0x10)]))
      0x00 0x00 0x00 0xFD 0x24 0x0212 2 true [] = true ∧
    ends (step (start 0x00 0x00 0x00 0xFD 0x26 0x0200 [(0x0200, 0xD0), (0x0201, 0x10)]))
      0x00 0x00 0x00 0xFD 0x26 0x0202 2 false [] = true ∧
    ends (step (start 0x00 0x00 0x00 0xFD 0x24 0x0300 [(0x0300, 0xD0), (0x0301, 0xF0)]))
      0x00 0x00 0x00 0xFD 0x24 0x02F2 2 true [] = true := by decide

/-- V54, V60: BCC. -/
theorem test_step_bcc :
    ends (step (start 0x00 0x00 0x00 0xFD 0x24 0x0200 [(0x0200, 0x90), (0x0201, 0x80)]))
      0x00 0x00 0x00 0xFD 0x24 0x0182 2 true [] = true ∧
    ends (step (start 0x00 0x00 0x00 0xFD 0x24 0xFFF0 [(0xFFF0, 0x90), (0xFFF1, 0x7F)]))
      0x00 0x00 0x00 0xFD 0x24 0x0071 2 true [] = true := by decide

/-- V55: BCS. -/
theorem test_step_bcs :
    ends (step (start 0x00 0x00 0x00 0xFD 0x25 0x0200 [(0x0200, 0xB0), (0x0201, 0x7F)]))
      0x00 0x00 0x00 0xFD 0x25 0x0281 2 true [] = true := by decide

/-- V56: BMI. -/
theorem test_step_bmi :
    ends (step (start 0x00 0x00 0x00 0xFD 0xA4 0x0200 [(0x0200, 0x30), (0x0201, 0x00)]))
      0x00 0x00 0x00 0xFD 0xA4 0x0202 2 true [] = true := by decide

/-- V57: BPL. -/
theorem test_step_bpl :
    ends (step (start 0x00 0x00 0x00 0xFD 0x24 0x0200 [(0x0200, 0x10), (0x0201, 0xFE)]))
      0x00 0x00 0x00 0xFD 0x24 0x0200 2 true [] = true := by decide

/-- V58: BVC. -/
theorem test_step_bvc :
    ends (step (start 0x00 0x00 0x00 0xFD 0x64 0x0200 [(0x0200, 0x50), (0x0201, 0x10)]))
      0x00 0x00 0x00 0xFD 0x64 0x0202 2 false [] = true := by decide

/-- V59: BVS. -/
theorem test_step_bvs :
    ends (step (start 0x00 0x00 0x00 0xFD 0x64 0x0200 [(0x0200, 0x70), (0x0201, 0x10)]))
      0x00 0x00 0x00 0xFD 0x64 0x0212 2 true [] = true := by decide

/-- V70: BRK. -/
theorem test_step_brk :
    ends (step (start 0x00 0x00 0x00 0xFD 0x25 0x0200 [(0x0200, 0x00), (0xFFFE, 0x00), (0xFFFF, 0x90)]))
      0x00 0x00 0x00 0xFA 0x25 0x9000 1 true [(0x01FD, 0x02), (0x01FC, 0x02), (0x01FB, 0x35)] = true := by decide

/-- V71, V72: JSR $1234; JSR $0000. -/
theorem test_step_jsr :
    ends (step (start 0x00 0x00 0x00 0xFD 0x24 0x0200 [(0x0200, 0x20), (0x0201, 0x34), (0x0202, 0x12)]))
      0x00 0x00 0x00 0xFB 0x24 0x1234 3 true [(0x01FD, 0x02), (0x01FC, 0x02)] = true ∧
    ends (step (start 0x00 0x00 0x00 0xFD 0x24 0xFFFE [(0xFFFE, 0x20), (0xFFFF, 0x00), (0x0000, 0x00)]))
      0x00 0x00 0x00 0xFB 0x24 0x0000 3 true [(0x01FD, 0x00), (0x01FC, 0x00)] = true := by decide

/-- V73: RTS. -/
theorem test_step_rts :
    ends (step (start 0x00 0x00 0x00 0xFB 0x24 0x0200 [(0x0200, 0x60), (0x01FC, 0x02), (0x01FD, 0x02)]))
      0x00 0x00 0x00 0xFD 0x24 0x0203 1 true [] = true := by decide

/-- V74: RTI. -/
theorem test_step_rti :
    ends (step (start 0x00 0x00 0x00 0xFA 0x24 0x0200 [(0x0200, 0x40), (0x01FB, 0xFF), (0x01FC, 0x34), (0x01FD, 0x12)]))
      0x00 0x00 0x00 0xFD 0xEF 0x1234 1 true [] = true := by decide

/-- V75, V76, V77: JMP $1234; JMP ($30FF); JMP ($1000). -/
theorem test_step_jmp :
    ends (step (start 0x00 0x00 0x00 0xFD 0x24 0x0200 [(0x0200, 0x4C), (0x0201, 0x34), (0x0202, 0x12)]))
      0x00 0x00 0x00 0xFD 0x24 0x1234 3 true [] = true ∧
    ends (step (start 0x00 0x00 0x00 0xFD 0x24 0x0200 [(0x0200, 0x6C), (0x0201, 0xFF), (0x0202, 0x30), (0x3000, 0x50), (0x30FF, 0x80), (0x3100, 0x40)]))
      0x00 0x00 0x00 0xFD 0x24 0x5080 3 true [] = true ∧
    ends (step (start 0x00 0x00 0x00 0xFD 0x24 0x0200 [(0x0200, 0x6C), (0x0201, 0x00), (0x0202, 0x10), (0x1000, 0x78), (0x1001, 0x56)]))
      0x00 0x00 0x00 0xFD 0x24 0x5678 3 true [] = true := by decide

/-- V78: PHA. -/
theorem test_step_pha :
    ends (step (start 0x5A 0x00 0x00 0x00 0x24 0x0200 [(0x0200, 0x48)]))
      0x5A 0x00 0x00 0xFF 0x24 0x0201 1 false [(0x0100, 0x5A)] = true := by decide

/-- V79: PHP. -/
theorem test_step_php :
    ends (step (start 0x00 0x00 0x00 0xFD 0xE7 0x0200 [(0x0200, 0x08)]))
      0x00 0x00 0x00 0xFC 0xE7 0x0201 1 false [(0x01FD, 0xF7)] = true := by decide

/-- V80: PLA. -/
theorem test_step_pla :
    ends (step (start 0x00 0x00 0x00 0xFF 0x24 0x0200 [(0x0200, 0x68), (0x0100, 0x80)]))
      0x80 0x00 0x00 0x00 0xA4 0x0201 1 false [] = true := by decide

/-- V81, V82: PLP. -/
theorem test_step_plp :
    ends (step (start 0x00 0x00 0x00 0xFC 0x24 0x0200 [(0x0200, 0x28), (0x01FD, 0xFF)]))
      0x00 0x00 0x00 0xFD 0xEF 0x0201 1 false [] = true ∧
    ends (step (start 0x00 0x00 0x00 0xFC 0x24 0x0200 [(0x0200, 0x28), (0x01FD, 0x10)]))
      0x00 0x00 0x00 0xFD 0x20 0x0201 1 false [] = true := by decide

/-- V90: INX. -/
theorem test_step_inx :
    ends (step (start 0x00 0xFF 0x00 0xFD 0x24 0x0200 [(0x0200, 0xE8)]))
      0x00 0x00 0x00 0xFD 0x26 0x0201 1 false [] = true := by decide

/-- V91: INY. -/
theorem test_step_iny :
    ends (step (start 0x00 0x00 0x7F 0xFD 0x24 0x0200 [(0x0200, 0xC8)]))
      0x00 0x00 0x80 0xFD 0xA4 0x0201 1 false [] = true := by decide

/-- V92: DEX. -/
theorem test_step_dex :
    ends (step (start 0x00 0x00 0x00 0xFD 0x24 0x0200 [(0x0200, 0xCA)]))
      0x00 0xFF 0x00 0xFD 0xA4 0x0201 1 false [] = true := by decide

/-- V93: DEY. -/
theorem test_step_dey :
    ends (step (start 0x00 0x00 0x01 0xFD 0x24 0x0200 [(0x0200, 0x88)]))
      0x00 0x00 0x00 0xFD 0x26 0x0201 1 false [] = true := by decide

/-- V94: CLC. -/
theorem test_step_clc :
    ends (step (start 0x00 0x00 0x00 0xFD 0xEF 0x0200 [(0x0200, 0x18)]))
      0x00 0x00 0x00 0xFD 0xEE 0x0201 1 false [] = true := by decide

/-- V95: CLD. -/
theorem test_step_cld :
    ends (step (start 0x00 0x00 0x00 0xFD 0xEF 0x0200 [(0x0200, 0xD8)]))
      0x00 0x00 0x00 0xFD 0xE7 0x0201 1 false [] = true := by decide

/-- V96: CLI. -/
theorem test_step_cli :
    ends (step (start 0x00 0x00 0x00 0xFD 0xEF 0x0200 [(0x0200, 0x58)]))
      0x00 0x00 0x00 0xFD 0xEB 0x0201 1 false [] = true := by decide

/-- V97: CLV. -/
theorem test_step_clv :
    ends (step (start 0x00 0x00 0x00 0xFD 0xEF 0x0200 [(0x0200, 0xB8)]))
      0x00 0x00 0x00 0xFD 0xAF 0x0201 1 false [] = true := by decide

/-- V98: SEC. -/
theorem test_step_sec :
    ends (step (start 0x00 0x00 0x00 0xFD 0x20 0x0200 [(0x0200, 0x38)]))
      0x00 0x00 0x00 0xFD 0x21 0x0201 1 false [] = true := by decide

/-- V99: SED. -/
theorem test_step_sed :
    ends (step (start 0x00 0x00 0x00 0xFD 0x20 0x0200 [(0x0200, 0xF8)]))
      0x00 0x00 0x00 0xFD 0x28 0x0201 1 false [] = true := by decide

/-- V100: SEI. -/
theorem test_step_sei :
    ends (step (start 0x00 0x00 0x00 0xFD 0x20 0x0200 [(0x0200, 0x78)]))
      0x00 0x00 0x00 0xFD 0x24 0x0201 1 false [] = true := by decide

/-- V101: TAX. -/
theorem test_step_tax :
    ends (step (start 0x00 0x55 0x00 0xFD 0x24 0x0200 [(0x0200, 0xAA)]))
      0x00 0x00 0x00 0xFD 0x26 0x0201 1 false [] = true := by decide

/-- V102: TAY. -/
theorem test_step_tay :
    ends (step (start 0x90 0x00 0x00 0xFD 0x24 0x0200 [(0x0200, 0xA8)]))
      0x90 0x00 0x90 0xFD 0xA4 0x0201 1 false [] = true := by decide

/-- V103: TXA. -/
theorem test_step_txa :
    ends (step (start 0x80 0x01 0x00 0xFD 0xA4 0x0200 [(0x0200, 0x8A)]))
      0x01 0x01 0x00 0xFD 0x24 0x0201 1 false [] = true := by decide

/-- V104: TYA. -/
theorem test_step_tya :
    ends (step (start 0x00 0x00 0xFF 0xFD 0x24 0x0200 [(0x0200, 0x98)]))
      0xFF 0x00 0xFF 0xFD 0xA4 0x0201 1 false [] = true := by decide

/-- V105: TSX. -/
theorem test_step_tsx :
    ends (step (start 0x00 0x00 0x00 0xFD 0x24 0x0200 [(0x0200, 0xBA)]))
      0x00 0xFD 0x00 0xFD 0xA4 0x0201 1 false [] = true := by decide

/-- V106: TXS. -/
theorem test_step_txs :
    ends (step (start 0x00 0x00 0x00 0xFD 0xA4 0x0200 [(0x0200, 0x9A)]))
      0x00 0x00 0x00 0x00 0xA4 0x0201 1 false [] = true := by decide

/-- V107: NOP. -/
theorem test_step_nop :
    ends (step (start 0x01 0x02 0x03 0xFD 0xE7 0x0200 [(0x0200, 0xEA)]))
      0x01 0x02 0x03 0xFD 0xE7 0x0201 1 false [] = true := by decide

/-- V110, V111, V112, V115, V130, V131: LDA #$00; LDA #$80; LDA ($FF),Y; LDA $12FF,Y; LDA ($FE,X); LDA ($FF,X). -/
theorem test_step_lda :
    ends (step (start 0x12 0x00 0x00 0xFD 0xA4 0x0200 [(0x0200, 0xA9), (0x0201, 0x00)]))
      0x00 0x00 0x00 0xFD 0x26 0x0202 2 false [] = true ∧
    ends (step (start 0x12 0x00 0x00 0xFD 0x26 0x0200 [(0x0200, 0xA9), (0x0201, 0x80)]))
      0x80 0x00 0x00 0xFD 0xA4 0x0202 2 false [] = true ∧
    ends (step (start 0x00 0x00 0x01 0xFD 0x24 0x0200 [(0x0200, 0xB1), (0x0201, 0xFF), (0x0000, 0x30), (0x00FF, 0x00), (0x3001, 0xC3)]))
      0xC3 0x00 0x01 0xFD 0xA4 0x0202 2 false [] = true ∧
    ends (step (start 0x00 0x00 0x01 0xFD 0x24 0x0200 [(0x0200, 0xB9), (0x0201, 0xFF), (0x0202, 0x12), (0x1300, 0x44)]))
      0x44 0x00 0x01 0xFD 0x24 0x0203 3 false [] = true ∧
    ends (step (start 0x00 0x03 0x00 0xFD 0x24 0x0200 [(0x0200, 0xA1), (0x0201, 0xFE), (0x0001, 0x34), (0x0002, 0x12), (0x1234, 0x5A)]))
      0x5A 0x03 0x00 0xFD 0x24 0x0202 2 false [] = true ∧
    ends (step (start 0x00 0x00 0x00 0xFD 0x24 0x0200 [(0x0200, 0xA1), (0x0201, 0xFF), (0x0000, 0x20), (0x00FF, 0x00), (0x2000, 0x01)]))
      0x01 0x00 0x00 0xFD 0x24 0x0202 2 false [] = true := by decide

/-- V132, V133, V134, V135, V136: LDA $80,X; LDA $10; LDA $1234; LDA $1234,X; LDA ($10),Y. -/
theorem test_step_lda_more :
    ends (step (start 0x00 0x90 0x00 0xFD 0x24 0x0200 [(0x0200, 0xB5), (0x0201, 0x80), (0x0010, 0x33)]))
      0x33 0x90 0x00 0xFD 0x24 0x0202 2 false [] = true ∧
    ends (step (start 0x00 0x00 0x00 0xFD 0x24 0x0200 [(0x0200, 0xA5), (0x0201, 0x10), (0x0010, 0x01)]))
      0x01 0x00 0x00 0xFD 0x24 0x0202 2 false [] = true ∧
    ends (step (start 0x00 0x00 0x00 0xFD 0x24 0x0200 [(0x0200, 0xAD), (0x0201, 0x34), (0x0202, 0x12), (0x1234, 0x02)]))
      0x02 0x00 0x00 0xFD 0x24 0x0203 3 false [] = true ∧
    ends (step (start 0x00 0x10 0x00 0xFD 0x24 0x0200 [(0x0200, 0xBD), (0x0201, 0x34), (0x0202, 0x12), (0x1244, 0x03)]))
      0x03 0x10 0x00 0xFD 0x24 0x0203 3 false [] = true ∧
    ends (step (start 0x00 0x00 0x10 0xFD 0x24 0x0200 [(0x0200, 0xB1), (0x0201, 0x10), (0x0010, 0xF8), (0x0011, 0x20), (0x2108, 0x04)]))
      0x04 0x00 0x10 0xFD 0x24 0x0202 2 false [] = true := by decide

/-- V113: LDX $FF,Y. -/
theorem test_step_ldx :
    ends (step (start 0x00 0x00 0x02 0xFD 0x24 0x0200 [(0x0200, 0xB6), (0x0201, 0xFF), (0x0001, 0x7F)]))
      0x00 0x7F 0x02 0xFD 0x24 0x0202 2 false [] = true := by decide

/-- V114: LDY $FFFF,X. -/
theorem test_step_ldy :
    ends (step (start 0x00 0x01 0x00 0xFD 0x24 0x0200 [(0x0200, 0xBC), (0x0201, 0xFF), (0x0202, 0xFF), (0x0000, 0x00)]))
      0x00 0x01 0x00 0xFD 0x26 0x0203 3 false [] = true := by decide

/-- V116, V119: STA ($10),Y; STA ($FE,X). -/
theorem test_step_sta :
    ends (step (start 0x99 0x00 0xFF 0xFD 0x24 0x0200 [(0x0200, 0x91), (0x0201, 0x10), (0x0010, 0xFF), (0x0011, 0xFF)]))
      0x99 0x00 0xFF 0xFD 0x24 0x0202 2 false [(0x00FE, 0x99)] = true ∧
    ends (step (start 0x77 0x03 0x00 0xFD 0x24 0x0200 [(0x0200, 0x81), (0x0201, 0xFE), (0x0001, 0x34), (0x0002, 0x12)]))
      0x77 0x03 0x00 0xFD 0x24 0x0202 2 false [(0x1234, 0x77)] = true := by decide

/-- V117: STX $10,Y. -/
theorem test_step_stx :
    ends (step (start 0x00 0xAB 0x01 0xFD 0x24 0x0200 [(0x0200, 0x96), (0x0201, 0x10)]))
      0x00 0xAB 0x01 0xFD 0x24 0x0202 2 false [(0x0011, 0xAB)] = true := by decide

/-- V118: STY $0300. -/
theorem test_step_sty :
    ends (step (start 0x00 0x00 0x00 0xFD 0xA4 0x0200 [(0x0200, 0x8C), (0x0201, 0x00), (0x0202, 0x03)]))
      0x00 0x00 0x00 0xFD 0xA4 0x0203 3 false [(0x0300, 0x00)] = true := by decide

/-- V120, V122: INC $FFFF,X; INC $10. -/
theorem test_step_inc :
    ends (step (start 0x00 0x06 0x00 0xFD 0x24 0x0200 [(0x0200, 0xFE), (0x0201, 0xFF), (0x0202, 0xFF), (0x0005, 0x7F)]))
      0x00 0x06 0x00 0xFD 0xA4 0x0203 3 false [(0x0005, 0x80)] = true ∧
    ends (step (start 0x00 0x00 0x00 0xFD 0xA4 0x0200 [(0x0200, 0xE6), (0x0201, 0x10), (0x0010, 0xFF)]))
      0x00 0x00 0x00 0xFD 0x26 0x0202 2 false [(0x0010, 0x00)] = true := by decide

/-- V121: DEC $10. -/
theorem test_step_dec :
    ends (step (start 0x00 0x00 0x00 0xFD 0x26 0x0200 [(0x0200, 0xC6), (0x0201, 0x10), (0x0010, 0x00)]))
      0x00 0x00 0x00 0xFD 0xA4 0x0202 2 false [(0x0010, 0xFF)] = true := by decide

/-- V140, V141, V142: unmapped bytes. -/
theorem test_step_unmapped :
    faults (step (start 0x01 0x02 0x03 0xFD 0x24 0x0200 [(0x0200, 0x02), (0x0201, 0x11), (0x0202, 0x22)]))
      (.unimplementedOpcode 0x02) = true ∧
    faults (step (start 0x01 0x02 0x03 0xFD 0xE7 0x0200 [(0x0200, 0xFF)])) (.unimplementedOpcode 0xFF) = true ∧
    faults (step (start 0x05 0x00 0x00 0xFD 0x25 0x0200 [(0x0200, 0xEB), (0x0201, 0x01)])) (.unimplementedOpcode 0xEB) = true := by
  decide

/-- R78 on LDA ($FE,X) at 0x0200, V130: opcode, operand, pointer low, pointer high, data, and nothing else. -/
theorem test_bus_accesses_in_order :
    (match step (start 0 3 0 0xFD 0x24 0x0200 [(0x0200, 0xA1), (0x0201, 0xFE), (1, 0x34), (2, 0x12), (0x1234, 0x5A)]) with
      | .next t => t.bus.log == [.read 0x0200 0xA1, .read 0x0201 0xFE, .read 1 0x34, .read 2 0x12, .read 0x1234 0x5A]
      | .fault _ => false
      | .refused _ => false) = true := by decide

/-- BRK at 0x0000, which memory of zeros holds after reset, is the first step when nothing is placed (R231, log entries 3 and 10). -/
theorem test_step_from_reset : ends (step State.reset) 0 0 0 0xFA 0x24 0x0000 1 true
    [(0x01FD, 0x00), (0x01FC, 0x02), (0x01FB, 0x34)] = true := by decide

/-- A placed instruction is the first one run after reset: STA $1234 is 8D 34 12 (R104, R108). -/
theorem test_with_fetch_word : ends (step (State.reset.withFetchWord 24 0x12348D)) 0 0 0 0xFD 0x24 0x0003 3 false
    [(0x1234, 0x00)] = true := by decide

/-! The host's moves: V160 to V164. -/

/-- A state in which nothing is in memory but the vectors and page one of V160 to V164. -/
def between (p : Byte) (pc : Addr) (cells : List (Addr × Byte)) : State := start 0x00 0x00 0x00 0xFD p pc cells

/-- V160: reset. -/
theorem test_reset_move :
    let t := (start 0x11 0x22 0x33 0x10 0xE3 0x1234 [(0xFFFC, 0x00), (0xFFFD, 0x80)]).hostReset
    t.sp = 0xFD ∧ t.p = 0x24 ∧ t.pc = 0x8000 ∧ t.aWritten = false ∧ t.xWritten = false ∧ t.yWritten = false ∧
    t.bus.log = [.read 0xFFFC 0x00, .read 0xFFFD 0x80] ∧ t.byteAt 0xFFFD = 0x80 ∧ t.result = none := by decide

/-- V161: IRQ with I = 0. -/
theorem test_irq_taken :
    let t := (between 0x20 0x1234 [(0xFFFE, 0x00), (0xFFFF, 0x40)]).irq
    t.2 = true ∧ t.1.pc = 0x4000 ∧ t.1.p = 0x24 ∧ t.1.sp = 0xFA ∧
    t.1.bus.log = [.write 0x01FD 0x12, .write 0x01FC 0x34, .write 0x01FB 0x20, .read 0xFFFE 0x00, .read 0xFFFF 0x40] := by decide

/-- V162: IRQ with I = 1. -/
theorem test_irq_masked : (between 0x24 0x1234 []).irq = (between 0x24 0x1234 [], false) := by decide

/-- V163: NMI. -/
theorem test_nmi :
    let t := (between 0xE3 0x0300 [(0xFFFA, 0x00), (0xFFFB, 0x50)]).nmi
    t.pc = 0x5000 ∧ t.p = 0xE7 ∧ t.sp = 0xFA ∧
    t.bus.log = [.write 0x01FD 0x03, .write 0x01FC 0x00, .write 0x01FB 0xE3, .read 0xFFFA 0x00, .read 0xFFFB 0x50] := by decide

/-- V164: NMI although I = 1. -/
theorem test_nmi_not_masked :
    let t := (between 0x24 0x0300 [(0xFFFA, 0x00), (0xFFFB, 0x50)]).nmi
    t.pc = 0x5000 ∧ t.p = 0x24 ∧ t.sp = 0xFA ∧ writes t.bus.log = [(0x01FD, 0x03), (0x01FC, 0x00), (0x01FB, 0x24)] := by decide

/-! Unwritten registers: V150 to V155. `checkedStep` gives what the vectors say; `step` runs on (log entry 2). -/

/-- A state right after reset but for PC and the bytes at it. -/
def fresh (cells : List (Addr × Byte)) : State :=
  { State.reset with
    pc := 0x0200
    bus := { mem := cells.foldl (fun m c => Memory.write m c.1 c.2) [], regions := [], seen := [], log := [] } }

/-- V150, V152, V153, V155. -/
theorem test_checked_step_faults :
    faults (checkedStep (fresh [(0x0200, 0x8D), (0x0201, 0x00), (0x0202, 0x30)])) (.unwrittenRegister .a) = true ∧
    faults (checkedStep (fresh [(0x0200, 0xB5), (0x0201, 0x10)])) (.unwrittenRegister .x) = true ∧
    faults (checkedStep (fresh [(0x0200, 0x8A)])) (.unwrittenRegister .x) = true ∧
    faults (checkedStep (fresh [(0x0200, 0xC8)])) (.unwrittenRegister .y) = true := by decide

/-- V151, V154. -/
theorem test_checked_step_runs :
    ends (checkedStep (fresh [(0x0200, 0xA9), (0x0201, 0x05)])) 0x05 0 0 0xFD 0x24 0x0202 2 false [] = true ∧
    ends (checkedStep (fresh [(0x0200, 0xA2), (0x0201, 0x00)])) 0 0 0 0xFD 0x26 0x0202 2 false [] = true := by decide

/-- `step` on V153's start: the read gives log entry 1's value. -/
theorem test_step_reads_unwritten : ends (step (fresh [(0x0200, 0x8A)])) 0 0 0 0xFD 0x26 0x0201 1 false [] = true := by decide

/-! The bus by kind (log entry 4). -/

/-- A state whose bus has a read-only region at 0x8000 to 0xFFFF and a device at 0x2000 to 0x2007, with STA $nnnn at 0x0200. -/
def mapped (lo hi : Byte) : State :=
  let s := start 0x5A 0 0 0xFD 0x24 0x0200 [(0x0200, 0x8D), (0x0201, lo), (0x0202, hi), (0x8000, 0x11)]
  s.setBus { s.bus with regions :=
    [{ base := 0x8000, size := 0x8000, kind := .rom }, { base := 0x2000, size := 8, kind := .device }] }

/-- A store to the read-only region and to the device completes, is one write on the bus, and changes no byte. -/
theorem test_store_outside_memory :
    (match step (mapped 0x00 0x80) with
      | .next t => writes t.bus.log == [(0x8000, 0x5A)] && t.byteAt 0x8000 == 0x11
      | .fault _ => false
      | .refused _ => false) = true ∧
    (match step (mapped 0x07 0x20) with
      | .next t => writes t.bus.log == [(0x2007, 0x5A)] && t.byteAt 0x2007 == 0x00
      | .fault _ => false
      | .refused _ => false) = true := by decide

/-- The regions end where they say. -/
theorem test_region_ends :
    (mapped 0 0).bus.kindAt 0x1FFF = .ram ∧ (mapped 0 0).bus.kindAt 0x2000 = .device ∧
    (mapped 0 0).bus.kindAt 0x2007 = .device ∧ (mapped 0 0).bus.kindAt 0x2008 = .ram ∧
    (mapped 0 0).bus.kindAt 0x7FFF = .ram ∧ (mapped 0 0).bus.kindAt 0x8000 = .rom ∧
    (mapped 0 0).bus.kindAt 0xFFFF = .rom := by decide

/-- A read of the device answers the free value of its address and of what the platform has seen, and the platform sees the read;
a write to the device or to the read-only region is seen too, and an access that memory alone answers is not (R61, R62). -/
theorem test_device_read :
    let b := (mapped 0 0).bus
    b.answer 0x2002 = Config.deviceByte [] 0x2002 ∧
    (b.readByte 0x2002).2.answer 0x2007 = Config.deviceByte [.read 0x2002 (Config.deviceByte [] 0x2002)] 0x2007 ∧
    ((b.writeByte 0x8000 1).writeByte 0x2000 2).answer 0x2002 =
      Config.deviceByte [.write 0x2000 2, .write 0x8000 1] 0x2002 ∧
    ((b.writeByte 0x0010 1).readByte 0x8000).2.seen = [] := ⟨rfl, rfl, rfl, rfl⟩

/-- Memory keeps its canonical form: entries in order, and writing the background removes one. -/
theorem test_memory_canonical :
    Memory.write (Memory.write (Memory.write [] 0x0300 1) 0x0010 2) 0xFFFF 3 = [(0x0010, 2), (0x0300, 1), (0xFFFF, 3)] ∧
    Memory.write [(0x0010, 2), (0x0300, 1)] 0x0010 0 = [(0x0300, 1)] ∧
    Memory.wf [(0x0010, 2), (0x0300, 1)] = true ∧ Memory.wf [(0x0300, 1), (0x0010, 2)] = false ∧
    Memory.wf [(0x0010, 0)] = false ∧ Memory.wf [(65536, 1)] = false := by decide

/-! Witnesses: for each statement with hypotheses, a state and operands that meet them all together. -/

/-- Every instruction meets `wellFormed`; here one of each length. -/
theorem witness_DecodeOfEncodeIsTheInstruction :
    Instr.nop.wellFormed = true ∧ (Instr.ldxZpY 0xFF#8).wellFormed = true ∧ (Instr.jmpInd 0xFFFF#16).wellFormed = true := by decide

theorem witness_EncodeOfDecodeIsTheBytes :
    decode [0x6C#8, 0xFF#8, 0x30#8, 0xEA#8] = .ok (.jmpInd 0x30FF#16, [0xEA#8]) ∧ decode [0xEA#8] = .ok (.nop, []) := by decide

theorem witness_OpcodeTableByMnemonic :
    ((Instr.staIndY 0#8).mnemonic = .sta ∧ (Instr.staIndY 0#8).mode = .indirectIndexedY ∧ (Instr.staIndY 0#8).opcode = 0x91#8) ∧
    (decodeOpcode 0x91#8).isSome = true := by decide

/-- The lowest and the highest unmapped byte. -/
theorem witness_UnmappedBytesFault :
    (fresh [(0x0200, 0x02)]).bus.answer (fresh [(0x0200, 0x02)]).pc = 0x02#8 ∧ (0x02#8 : Byte).toNat ∈ unmapped ∧
    (fresh [(0x0200, 0xFF)]).bus.answer (fresh [(0x0200, 0xFF)]).pc = 0xFF#8 ∧ (0xFF#8 : Byte).toNat ∈ unmapped := by decide

/-- A mode for each of the three lengths. -/
theorem witness_LengthFollowsFromTheMode :
    Instr.aslAcc.mode ∈ [.implied, .accumulator] ∧ (Instr.beq 0#8).mode ∈ [.immediate, .zeroPage, .zeroPageX, .zeroPageY,
      .indexedIndirectX, .indirectIndexedY, .relative] ∧ (Instr.jmpInd 0#16).mode ∈ [.absolute, .absoluteX, .absoluteY, .indirect] := by
  decide

/-- JMP ($30FF) at 0xFFFE: its last byte stands at 0x0000, and no device answers. -/
def atTop : State := start 0 0 0 0xFD 0x24 0xFFFE [(0xFFFE, 0x6C), (0xFFFF, 0xFF), (0x0000, 0x30)]

theorem witness_StepRunsTheDecodedInstruction :
    (atTop.bus.kindAt atTop.pc ≠ .device ∧ atTop.bus.kindAt (atTop.pc + 1) ≠ .device ∧ atTop.bus.kindAt (atTop.pc + 2) ≠ .device) ∧
    decode [atTop.byteAt atTop.pc, atTop.byteAt (atTop.pc + 1), atTop.byteAt (atTop.pc + 2)] = .ok (.jmpInd 0x30FF#16, []) := by decide

/-- Both clauses of FetchOnAnyBus and of OnlyUnmappedBytesStopAStep: an unmapped byte at PC, and a mapped one of a form with two
operand bytes. -/
theorem witness_FetchOnAnyBus :
    decodeOpcode (byteFetched (fresh [(0x0200, 0x02)]) 0) = none ∧
    (∃ f, decodeOpcode (byteFetched atTop 0) = some f ∧ f.length = 3) ∧ decodeOpcode (atTop.bus.answer atTop.pc) ≠ none :=
  ⟨rfl, ⟨_, rfl, rfl⟩, by rw [show atTop.bus.answer atTop.pc = 0x6C#8 from rfl]; exact nofun⟩

theorem witness_BusAccessesOfAStepInOrder :
    ∃ (u t : State) (i : Instr), atTop.fetch = .ok (i, u) ∧ step atTop = .next t := ⟨_, _, _, rfl, rfl⟩

theorem witness_FlagPrimitivesBitByBit : 0 < 8 ∧ 7 < 8 := by decide

theorem witness_StatusBitsFourAndFiveAreFixed : 4 < 8 ∧ 5 < 8 := by decide

/-- A state with canonical memory and P with B = 0 and U = 1, whose step completes. -/
theorem witness_StepKeepsTheInvariant : atTop.Inv ∧ completes (step atTop) = true :=
  ⟨⟨by decide, by decide, by decide⟩, by decide⟩

/-- The launch, and a state after a move of each kind. -/
theorem witness_ReachableStatesHaveTheInvariant :
    Reachable State.reset ∧ Reachable State.reset.nmi ∧ Reachable (State.reset.busUpdate atTop.bus) :=
  have h : Reachable State.reset := Reachable.launch { mem := [], regions := [], seen := [], log := [] } rfl
  ⟨h, h.move .nmi rfl rfl, h.move (.busUpdate atTop.bus) (by decide) rfl⟩

/-- TXS, which writes neither A, X nor Y, and NOP, which writes none of the four nor a flag, complete. -/
theorem witness_OnlyTheListedInstructionsWriteEachRegister :
    (∃ t, exec .txs atTop = .next t) ∧ ¬ writesA .txs ∧ Instr.txs.mnemonic ∉ [.ldx, .tax, .tsx, .inx, .dex] ∧
    Instr.txs.mnemonic ∉ [.ldy, .tay, .iny, .dey] ∧ (∃ t, exec .nop atTop = .next t) ∧
    Instr.nop.mnemonic ∉ [.brk, .jsr, .rts, .rti, .pha, .php, .pla, .plp, .txs] :=
  ⟨⟨_, rfl⟩, by simp [writesA, Instr.mnemonic], by decide, by decide, ⟨_, rfl⟩, by decide⟩

theorem witness_OnlyTheListedInstructionsWriteEachFlag :
    (∃ t, exec (.ldaImm 0x80#8) atTop = .next t) ∧ (Instr.ldaImm 0x80#8).mnemonic ∉ flagWriters .carry ∧
    (∃ t, exec .txs atTop = .next t) ∧ ∀ f : Flag, Instr.txs.mnemonic ∉ flagWriters f :=
  ⟨⟨_, rfl⟩, by decide, ⟨_, rfl⟩, fun f => by cases f <;> decide⟩

theorem witness_UnreadRegistersDoNotMatter :
    ¬ readsA (.ldaImm 0#8) ∧ ¬ readsX (.ldaImm 0#8) ∧ ¬ readsY (.ldaImm 0#8) := by
  simp [readsA, readsX, readsY, Instr.mnemonic, Instr.mode, Instr.operand, Operand.mode]

/-- STA $FFFF stores at 0xFFFF, and the byte below it is outside; the fetch answers an instruction. -/
theorem witness_MemoryChangesOnlyWhereAnInstructionStores :
    (∃ t, exec (.staAbs 0xFFFF#16) atTop = .next t) ∧ 0xFFFF#16 ∈ storedAddresses atTop (.staAbs 0xFFFF#16) ∧
    0xFFFE#16 ∉ storedAddresses atTop (.staAbs 0xFFFF#16) ∧ (∃ i u, atTop.fetch = .ok (i, u)) :=
  ⟨⟨_, rfl⟩, by decide, by decide, _, _, rfl⟩

/-- For EffectiveAddressesWithoutPointer and PointerModesReadLittleEndianInPage. -/
theorem witness_PremisesOnTheMode :
    (Instr.ldxZpY 0xFF#8).mode ∈ [.zeroPage, .zeroPageX, .zeroPageY] ∧ (Instr.ldaAbsY 0#16).mode ∈ [.absolute, .absoluteX, .absoluteY] ∧
    (Instr.ldxZpY 0xFF#8).mode = .zeroPageY ∧ (Instr.staIndX 0#8).mode ∈ [.indexedIndirectX, .indirectIndexedY] ∧
    (Instr.jmpInd 0#16).mode = .indirect := by decide

/-- An instruction of each class, for ResolverContractByClass. -/
theorem witness_ResolverContractByClass :
    (accessClass (.ldaImm 0#8) = .read ∧ (Instr.ldaImm 0#8).mode = .immediate) ∧ accessClass .rorAcc = .accumulator ∧
    (accessClass (.ldaZp 0#8) = .read ∧ (Instr.ldaZp 0#8).mode ≠ .immediate) ∧
    (accessClass (.incAbs 0#16) = .readModifyWrite ∧ (Instr.incAbs 0#16).mode ≠ .immediate) ∧
    accessClass (.styAbs 0#16) = .write ∧ accessClass (.jsr 0#16) = .jump ∧ accessClass (.bvs 0#8) = .branch ∧
    accessClass .txs = .implied := by decide

/-- An instruction of each mnemonic in its first and its last mode, for AdcAddsWithCarry, SbcSubtractsWithBorrow,
BitTestsMemoryAndKeepsA, ShiftsMoveOneBitIntoCarry, RotatesGoThroughCarry, IncAndDecModifyMemory and LoadsWriteTheRegister. -/
theorem witness_MnemonicHypotheses :
    (Instr.adcImm 0#8).mnemonic = .adc ∧ (Instr.adcIndY 0#8).mnemonic = .adc ∧
    (Instr.sbcImm 0#8).mnemonic = .sbc ∧ (Instr.sbcIndY 0#8).mnemonic = .sbc ∧
    (Instr.bitZp 0#8).mnemonic = .bit ∧ (Instr.bitAbs 0#16).mnemonic = .bit ∧
    Instr.aslAcc.mnemonic = .asl ∧ (Instr.aslAbsX 0#16).mnemonic = .asl ∧
    Instr.lsrAcc.mnemonic = .lsr ∧ (Instr.lsrAbsX 0#16).mnemonic = .lsr ∧
    Instr.rolAcc.mnemonic = .rol ∧ (Instr.rolAbsX 0#16).mnemonic = .rol ∧
    Instr.rorAcc.mnemonic = .ror ∧ (Instr.rorAbsX 0#16).mnemonic = .ror ∧
    (Instr.incZp 0#8).mnemonic = .inc ∧ (Instr.incAbsX 0#16).mnemonic = .inc ∧
    (Instr.decZp 0#8).mnemonic = .dec ∧ (Instr.decAbsX 0#16).mnemonic = .dec ∧
    (Instr.ldaImm 0#8).mnemonic ∈ [.lda, .ldx, .ldy] ∧ (Instr.ldxAbsY 0#16).mnemonic ∈ [.lda, .ldx, .ldy] ∧
    (Instr.ldyAbsX 0#16).mnemonic ∈ [.lda, .ldx, .ldy] := by decide

/-- With the carry the same and D another. -/
theorem witness_DecimalModeHasNoArithmeticEffect :
    (Instr.adcImm 0#8).mnemonic ∈ [.adc, .sbc] ∧ (atTop.setP 0x28#8).flag .carry = atTop.flag .carry ∧
    (atTop.setP 0x28#8).flag .decimal ≠ atTop.flag .decimal := by decide

theorem witness_LogicalInstructionsCombineIntoA :
    (∃ f : Byte → Byte → Byte, ((Instr.andImm 0#8).mnemonic, f) = (.and, fun a m => a &&& m)) ∧
    (∃ f : Byte → Byte → Byte, ((Instr.oraIndY 0#8).mnemonic, f) = (.ora, fun a m => a ||| m)) ∧
    (∃ f : Byte → Byte → Byte, ((Instr.eorAbs 0#16).mnemonic, f) = (.eor, fun a m => a ^^^ m)) := ⟨⟨_, rfl⟩, ⟨_, rfl⟩, ⟨_, rfl⟩⟩

theorem witness_ComparesSetFlagsAndKeepTheRegister :
    (∃ r, ((Instr.cmpIndX 0#8).mnemonic, r) = (Mnemonic.cmp, atTop.a)) ∧ (∃ r, ((Instr.cpxZp 0#8).mnemonic, r) = (Mnemonic.cpx, atTop.x)) ∧
    (∃ r, ((Instr.cpyAbs 0#16).mnemonic, r) = (Mnemonic.cpy, atTop.y)) := ⟨⟨_, rfl⟩, ⟨_, rfl⟩, ⟨_, rfl⟩⟩

theorem witness_StoresWriteOneByteAndReadNone :
    (∃ v, ((Instr.staIndY 0#8).mnemonic, v) = (Mnemonic.sta, atTop.a)) ∧ (∃ v, ((Instr.stxZpY 0#8).mnemonic, v) = (Mnemonic.stx, atTop.x)) ∧
    (∃ v, ((Instr.styZpX 0#8).mnemonic, v) = (Mnemonic.sty, atTop.y)) := ⟨⟨_, rfl⟩, ⟨_, rfl⟩, ⟨_, rfl⟩⟩

/-- SP at both ends of its range: memory takes writes at the three stack bytes, which wrap inside page one. -/
def spAt (sp : Byte) : State := start 0 0 0 sp 0x20 0x0200 []

/-- For PushAndPullStayInPageOne, PushedWordIsLittleEndianAndPullsBack, RtsAfterJsrGoesToTheNextInstruction,
RtiAfterBrkRestoresStatusAndSkipsAByte and RtiAfterInterruptResumesTheProgram. -/
theorem witness_StackBytesTakeWrites :
    ((spAt 0).bus.kindAt (stackBelow (spAt 0) 0) = .ram ∧ (spAt 0).bus.kindAt (stackBelow (spAt 0) 1) = .ram ∧
      (spAt 0).bus.kindAt (stackBelow (spAt 0) 2) = .ram) ∧
    ((spAt 255).bus.kindAt (stackBelow (spAt 255) 0) = .ram ∧ (spAt 255).bus.kindAt (stackBelow (spAt 255) 1) = .ram ∧
      (spAt 255).bus.kindAt (stackBelow (spAt 255) 2) = .ram) ∧
    (spAt 0).sp = 0#8 ∧ stackBelow (spAt 0) 0 = 0x0100#16 ∧ stackBelow (spAt 0) 1 = 0x01FF#16 ∧
    stackAbove (spAt 255) 1 = 0x0100#16 ∧ 0 ≤ 256 ∧ 256 ≤ 256 := by decide

/-- The three kinds, and two addresses that differ; and a platform that is what `PlatformIs` asks: its states are the accesses seen. -/
theorem witness_BusReadsAndWritesByKind :
    (mapped 0 0).bus.kindAt 0x2008#16 = .ram ∧ (mapped 0 0).bus.kindAt 0x8000#16 = .rom ∧
    (mapped 0 0).bus.kindAt 0x2007#16 = .device ∧ (0x2007#16 : Addr) ≠ 0x2008#16 ∧
    PlatformIs (B := List Access) (fun h c => (Config.deviceByte h c, .read c (Config.deviceByte h c) :: h))
      (fun h c v => .write c v :: h) id :=
  ⟨by decide, by decide, by decide, by decide, fun _ _ _ => ⟨rfl, rfl⟩⟩

/-- I = 0 and I = 1, for SharedEntrySequence, IrqIsMaskedByIAndNmiIsNot and RtiAfterInterruptResumesTheProgram. -/
theorem witness_InterruptMask :
    (spAt 0).flag .interruptDisable = false ∧ State.reset.flag .interruptDisable = true ∧
    ∃ t, t = (spAt 0).nmi ∨ ((spAt 0).flag .interruptDisable = false ∧ t = (spAt 0).irq.1) :=
  ⟨by decide, by decide, _, .inl rfl⟩

/-- A state for each of the four clauses: STA ($10),Y reads A and Y, LDA $10,X reads X, DEY reads Y, LDA # reads none. -/
theorem witness_CheckedStepStopsOnUnwrittenRegisters :
    (∃ u, (fresh [(0x0200, 0x91), (0x0201, 0x10)]).fetch = .ok (.staIndY 0x10#8, u) ∧ readsA (.staIndY 0x10#8)) ∧
    (∃ u, (fresh [(0x0200, 0xB5), (0x0201, 0x10)]).fetch = .ok (.ldaZpX 0x10#8, u) ∧ ¬ readsA (.ldaZpX 0x10#8) ∧ readsX (.ldaZpX 0x10#8)) ∧
    (∃ u, (fresh [(0x0200, 0x88)]).fetch = .ok (.dey, u) ∧ ¬ readsA .dey ∧ ¬ readsX .dey ∧ readsY .dey) ∧
    (∃ u, (fresh [(0x0200, 0xA9), (0x0201, 0x05)]).fetch = .ok (.ldaImm 0x05#8, u) ∧
      ¬ readsA (.ldaImm 0x05#8) ∧ ¬ readsX (.ldaImm 0x05#8) ∧ ¬ readsY (.ldaImm 0x05#8)) ∧
    (fresh []).aWritten = false ∧ (fresh []).xWritten = false ∧ (fresh []).yWritten = false := by
  refine ⟨⟨_, rfl, ?_⟩, ⟨_, rfl, ?_, ?_⟩, ⟨_, rfl, ?_, ?_, ?_⟩, ⟨_, rfl, ?_, ?_, ?_⟩, rfl, rfl, rfl⟩ <;>
    simp [readsA, readsX, readsY, Instr.mnemonic, Instr.mode, Instr.operand, Operand.mode, MemOperand.mode]

/-- Two states after reset with different values in A, X and Y; LDA #$05 completes from the first. -/
theorem witness_CheckedRunsDoNotSeeResetValues :
    let s := fresh [(0x0200, 0xA9), (0x0201, 0x05)]
    AgreeOnWritten s { s with a := 1, x := 2, y := 3 } ∧ ∃ t, checkedStep s = .next t :=
  ⟨⟨nofun, nofun, nofun, rfl⟩, _, rfl⟩

/-- A run of each end: at the stop address, with a fault, and still going; and away from the stop address a move that goes on, one
that faults and, with a step that refuses, one that is refused. -/
theorem witness_RunsEndAtTheStopAddress :
    ((fresh [(0x0200, 0xEA)]).pc ≠ 0x0300 ∧ (∃ t, hostMove step .step (fresh [(0x0200, 0xEA)]) = .next t) ∧
      (∃ r, hostMove step .step (fresh [(0x0200, 0x02)]) = .fault r) ∧
      (∀ q, hostMove (fun _ => .refused q) .step (fresh []) = .refused q)) ∧
    (∃ t, runMoves step 0x0201 [.step] (fresh [(0x0200, 0xEA)]) = .normal t) ∧
    (∃ r t, runMoves step 0x0300 [.step] (fresh [(0x0200, 0x02)]) = .fault r t) ∧
    (∃ t, runMoves step 0x0300 [.step] (fresh [(0x0200, 0xEA)]) = .stopped t) ∧ (fresh []).pc = 0x0200 := by
  refine ⟨⟨by decide, ⟨_, rfl⟩, ⟨_, rfl⟩, fun _ => rfl⟩, ⟨_, rfl⟩, ⟨_, _, rfl⟩, ⟨_, rfl⟩, rfl⟩

/-- Log entry 13: at the stop address the run ends before an NMI made at the same boundary. -/
theorem test_run_ends_before_a_move_at_stop : runMoves step 0x0200 [.nmi, .step] (fresh [(0x0200, 0xEA)]) =
    .normal (fresh [(0x0200, 0xEA)]) := by rfl

end Sys2Proof.Tests
end

section
/-!
The flag algebra bit by bit (spec/10_state.md rules R26, R27 and R40 to R47). Every flag mask is a power of two, and every
flag primitive is `setFlag` of its flag, so that one lemma about `setFlag` says what all of them do.
-/

namespace Sys2Proof.Machine

/-- The bit of P that a flag stands in (R26). -/
def Flag.bit : Flag → Nat
  | .carry => 0
  | .zero => 1
  | .interruptDisable => 2
  | .decimal => 3
  | .overflow => 6
  | .negative => 7

theorem Flag.bit_lt (f : Flag) : f.bit < 8 := by cases f <;> decide

theorem Flag.mask_eq_twoPow (f : Flag) : f.mask = BitVec.twoPow 8 f.bit := by cases f <;> rfl

/-- `setFlag` sets the bit of its flag and keeps every other bit (R45). -/
theorem setFlag_getLsbD (p : Byte) (f : Flag) (b : Bool) (j : Nat) :
    (setFlag p f b).getLsbD j = if j = f.bit then b else p.getLsbD j := by
  have hbit := f.bit_lt
  rw [setFlag, Flag.mask_eq_twoPow, BitVec.getLsbD_or, BitVec.getLsbD_and, BitVec.getLsbD_not, BitVec.getLsbD_twoPow]
  by_cases hj : j = f.bit
  · subst hj
    cases b <;> simp [hbit]
  · have hlt : p.getLsbD j = true → j < 8 := BitVec.lt_of_getLsbD
    cases b <;> simpa [hj, Ne.symm hj] using hlt

/-- Testing a flag reads its bit (R26). -/
theorem testFlag_eq_getLsbD (p : Byte) (f : Flag) : testFlag p f = p.getLsbD f.bit := by
  rw [testFlag, Flag.mask_eq_twoPow, BitVec.and_twoPow]
  cases p.getLsbD f.bit
  · rfl
  · cases f <;> rfl

/-! Each primitive is `setFlag` of its flag (R40 to R44). -/

theorem withCarry_eq_setFlag (p : Byte) (c : Bool) : withCarry p c = setFlag p .carry c := rfl

theorem withZero_eq_setFlag (p v : Byte) : withZero p v = setFlag p .zero (decide (v = 0#8)) := by
  simp [withZero, setFlag, Flag.mask]

theorem withNegative_eq_setFlag (p v : Byte) : withNegative p v = setFlag p .negative (v.getLsbD 7) := by
  have h : v &&& 0x80#8 = if v.getLsbD 7 then 0x80#8 else 0#8 := BitVec.and_twoPow v 7
  rw [withNegative, h]
  rfl

theorem withOverflow_eq_setFlag (p a b r : Byte) :
    withOverflow p a b r = setFlag p .overflow (signedOverflow a b r) := rfl

theorem withInterruptDisable_eq_setFlag (p : Byte) (c : Bool) :
    withInterruptDisable p c = setFlag p .interruptDisable c := rfl

/-- The sign of a byte is its bit 7 (R43). -/
theorem signedOverflow_eq_getLsbD (a b r : Byte) :
    signedOverflow a b r = (a.getLsbD 7 == b.getLsbD 7 && r.getLsbD 7 != a.getLsbD 7) := by
  simp [signedOverflow, BitVec.msb_eq_getLsbD_last]

/-- `setNZ` sets bits 1 and 7 and keeps every other bit (R46). -/
theorem setNZ_getLsbD (p v : Byte) (j : Nat) :
    (setNZ p v).getLsbD j =
      if j = 1 then decide (v = 0#8) else if j = 7 then v.getLsbD 7 else p.getLsbD j := by
  rw [setNZ, withNegative_eq_setFlag, withZero_eq_setFlag, setFlag_getLsbD, setFlag_getLsbD]
  by_cases hj : j = 7
  · subst hj; rfl
  · rw [if_neg hj]
    exact if_neg hj

/-- The pushed copy is P with bit 5 set, and bit 4 too for BRK and PHP (R47). -/
theorem pushedP_getLsbD_eq_or (p : Byte) (brk : Bool) (j : Nat) :
    (pushedP p brk).getLsbD j = (p.getLsbD j || decide (5 = j) || (brk && decide (4 = j))) := by
  have hmasks : pushedP p brk = p ||| BitVec.twoPow 8 5 ||| (if brk then BitVec.twoPow 8 4 else 0#8) := rfl
  rw [hmasks]
  cases brk <;> simp [BitVec.getLsbD_twoPow]

/-- Of a P that reads B as 0, the pushed copy has U set, B as its kind says, and the other bits of P (R47). -/
theorem pushedP_getLsbD {p : Byte} (hB : p.getLsbD 4 = false) (brk : Bool) (j : Nat) :
    (pushedP p brk).getLsbD j = if j = 5 then true else if j = 4 then brk else p.getLsbD j := by
  rw [pushedP_getLsbD_eq_or]
  by_cases hU : j = 5
  · simp [hU]
  · by_cases hj : j = 4
    · subst hj
      rw [hB]
      simp
    · simp [hU, hj, Ne.symm hU, Ne.symm hj]

end Sys2Proof.Machine

namespace Sys2Proof.Proofs

open Sys2Proof.Machine

/-- Settles O16: every primitive is `setFlag` of one flag, or two of them. -/
theorem flagPrimitivesBitByBit : Obligations.FlagPrimitivesBitByBit := by
  intro p v a b r c j _
  refine ⟨?carry, ?zero, ?negative, ?overflow, ?interruptDisable, setNZ_getLsbD p v j, ?flags⟩
  case carry => rw [withCarry_eq_setFlag, setFlag_getLsbD, Flag.bit]
  case zero => rw [withZero_eq_setFlag, setFlag_getLsbD, Flag.bit]
  case negative => rw [withNegative_eq_setFlag, setFlag_getLsbD, Flag.bit]
  case overflow => rw [withOverflow_eq_setFlag, setFlag_getLsbD, signedOverflow_eq_getLsbD, Flag.bit]
  case interruptDisable => rw [withInterruptDisable_eq_setFlag, setFlag_getLsbD, Flag.bit]
  case flags =>
    intro fk hfk
    have hbit : fk.2 = fk.1.bit := by
      simp only [List.mem_cons, List.not_mem_nil, or_false] at hfk
      rcases hfk with rfl | rfl | rfl | rfl | rfl | rfl <;> rfl
    rw [hbit]
    exact ⟨setFlag_getLsbD p fk.1 c j, testFlag_eq_getLsbD p fk.1⟩

/-- Settles O17: P is written and read through the one filter, and what is pushed is made of the filtered byte. -/
theorem statusBitsFourAndFiveAreFixed : Obligations.StatusBitsFourAndFiveAreFixed := by
  refine ⟨fun s v => ⟨rfl, ?_⟩, fun s brk j _ => ?_⟩
  · rw [State.setP_status, filterP_filterP, filterP]
  · have hB : s.status.getLsbD 4 = false := filterP_bit4 s.p
    exact ⟨filterP_bit5 s.p, hB, pushedP_getLsbD hB brk j⟩

end Sys2Proof.Proofs
end

section
/-!
The stack (spec/20_memory.md rules R68, R75 and R76): the stack bytes as the statements count them, from SP down and from SP up,
are the bytes that Push and Pull use, and they lie in page 0x01.
-/

namespace Sys2Proof.Proofs

open Sys2Proof.Machine Sys2Proof.Claims

theorem stackBelow_toNat (s : State) (k : Nat) : (stackBelow s k).toNat = 256 + (s.sp.toNat + 256 - k) % 256 := by
  rw [stackBelow, BitVec.toNat_ofNat]
  omega

theorem stackAbove_toNat (s : State) (k : Nat) : (stackAbove s k).toNat = 256 + (s.sp.toNat + k) % 256 := by
  rw [stackAbove, BitVec.toNat_ofNat]
  omega

/-- `k` places below SP, modulo 256 inside page 0x01 (R75). -/
theorem stackBelow_eq_stackAddr (s : State) {k : Nat} (hk : k < 256) :
    stackBelow s k = stackAddr (s.sp - BitVec.ofNat 8 k) := by
  apply BitVec.eq_of_toNat_eq
  rw [stackBelow_toNat, stackAddr_toNat, BitVec.toNat_sub, BitVec.toNat_ofNat]
  omega

/-- `k` places above SP, modulo 256 inside page 0x01 (R76). -/
theorem stackAbove_eq_stackAddr (s : State) (k : Nat) : stackAbove s k = stackAddr (s.sp + BitVec.ofNat 8 k) := by
  apply BitVec.eq_of_toNat_eq
  rw [stackAbove_toNat, stackAddr_toNat, BitVec.toNat_add, BitVec.toNat_ofNat]
  omega

/-! The stack addresses in the order in which pushes and pulls reach them. -/

theorem stackBelow_zero (s : State) : stackBelow s 0 = stackAddr s.sp := by
  simp [stackBelow_eq_stackAddr]

theorem stackBelow_one (s : State) : stackBelow s 1 = stackAddr (s.sp - 1) := stackBelow_eq_stackAddr s (by decide)

theorem stackBelow_two (s : State) : stackBelow s 2 = stackAddr (s.sp - 1 - 1) := by
  rw [stackBelow_eq_stackAddr s (by decide), BitVec.sub_sub]
  rfl

theorem stackAbove_one (s : State) : stackAbove s 1 = stackAddr (s.sp + 1) := stackAbove_eq_stackAddr s 1

theorem stackAbove_two (s : State) : stackAbove s 2 = stackAddr (s.sp + 1 + 1) := by
  rw [stackAbove_eq_stackAddr, BitVec.add_assoc]
  rfl

theorem stackAbove_three (s : State) : stackAbove s 3 = stackAddr (s.sp + 1 + 1 + 1) := by
  rw [stackAbove_eq_stackAddr, BitVec.add_assoc, BitVec.add_assoc]
  rfl

/-- Two pushes in a row use different stack bytes. -/
theorem stackBelow_zero_ne_one (s : State) : stackBelow s 0 ≠ stackBelow s 1 := by
  intro h
  have := congrArg BitVec.toNat h
  rw [stackBelow_toNat, stackBelow_toNat] at this
  omega

/-- Settles O43: Push and Pull use the stack bytes at SP and above SP, which are numbers from 0x0100 to 0x01FF. -/
theorem pushAndPullStayInPageOne : Obligations.PushAndPullStayInPageOne := by
  refine ⟨fun s v => ?pushPull, fun s k hk => ?page, fun s hsp => ?bottom⟩
  case pushPull =>
    refine ⟨stackAddr_toNat s.sp, ?pushBus, ?pushSP, rfl, ?pullByte, ?pullBus, ?pullSP, rfl⟩
    case pushBus => rw [stackBelow_zero]; rfl
    case pushSP =>
      have hsp : (s.push v).sp = s.sp - 1#8 := rfl
      rw [hsp, BitVec.toNat_sub, Nat.add_comm]
      rfl
    case pullByte => rw [stackAbove_one, State.pull_fst]
    case pullBus => rw [stackAbove_one]; rfl
    case pullSP => exact BitVec.toNat_add s.sp 1#8
  case page =>
    rw [stackBelow_toNat, stackAbove_toNat]
    omega
  case bottom => rw [stackBelow_zero, hsp]; rfl

/-- What memory holds after a word is pushed: its high byte at SP and its low byte below it (R68). -/
theorem byteAt_pushWord {s : State} (v : Addr) (h0 : s.bus.kindAt (stackBelow s 0) = .ram)
    (h1 : s.bus.kindAt (stackBelow s 1) = .ram) :
    (s.pushWord v).byteAt (stackBelow s 0) = hiByte v ∧ (s.pushWord v).byteAt (stackBelow s 1) = loByte v := by
  have hne := stackBelow_zero_ne_one s
  simp only [stackBelow_zero, stackBelow_one] at *
  rw [State.pushWord_eq]
  constructor
  · exact (Bus.read_writeByte_other _ _ hne).trans (Bus.read_writeByte_same _ _ h0)
  · exact Bus.read_writeByte_same _ _ (by rwa [Bus.writeByte_kindAt])

/-- Where memory answers at the two stack bytes above SP, the word pulled is the one that stands there, low byte first (R68). -/
theorem pullWord_memory {s : State} (h1 : s.bus.kindAt (stackAbove s 1) ≠ .device)
    (h2 : s.bus.kindAt (stackAbove s 2) ≠ .device) :
    s.pullWord.1 = word (s.byteAt (stackAbove s 2)) (s.byteAt (stackAbove s 1)) := by
  rw [State.pullWord_fst, ← stackAbove_one, ← stackAbove_two, Bus.answer_memory h1,
    Bus.answer_memory (by rwa [Bus.readByte_kindAt]), Bus.readByte_mem]
  rfl

/-- After two pushes the stack byte above SP is the second one used. -/
theorem stackAbove_one_pushWord (s : State) (v : Addr) : stackAbove (s.pushWord v) 1 = stackBelow s 1 := by
  rw [stackAbove_one, stackBelow_one, State.pushWord_eq, State.setSP_sp, BitVec.sub_add_cancel]

/-- After two pushes the stack byte two above SP is the first one used. -/
theorem stackAbove_two_pushWord (s : State) (v : Addr) : stackAbove (s.pushWord v) 2 = stackBelow s 0 := by
  rw [stackAbove_two, stackBelow_zero, State.pushWord_eq, State.setSP_sp, BitVec.sub_add_cancel, BitVec.sub_add_cancel]

/-- Pushing a word leaves the platform's map. -/
theorem kindAt_pushWord (s : State) (v c : Addr) : (s.pushWord v).bus.kindAt c = s.bus.kindAt c := by
  simp [State.pushWord_eq]

/-- Settles O44: the two stack bytes hold the word's halves, and the two pulls read exactly those two bytes. -/
theorem pushedWordIsLittleEndianAndPullsBack : Obligations.PushedWordIsLittleEndianAndPullsBack := by
  intro s v h0 h1
  obtain ⟨hhi, hlo⟩ := byteAt_pushWord v h0 h1
  refine ⟨hhi, hlo, ?value, ?sp⟩
  case value =>
    rw [pullWord_memory, stackAbove_one_pushWord, stackAbove_two_pushWord, hhi, hlo, word_hiByte_loByte]
    · simp [stackAbove_one_pushWord, kindAt_pushWord, h1]
    · simp [stackAbove_two_pushWord, kindAt_pushWord, h0]
  case sp =>
    rw [State.pullWord_snd, State.setBus_sp, State.setSP_sp, State.pushWord_eq, State.setSP_sp, BitVec.sub_add_cancel,
      BitVec.sub_add_cancel]

end Sys2Proof.Proofs
end

section
/-!
The shape of every instruction's meaning (spec/40_fetch_decode_execute.md R134, R136): which class runs it, on which operand,
and that no handler of a class touches the bus itself. A statement about all 151 instructions is then one case per shape.
-/

namespace Sys2Proof.Proofs

open Sys2Proof.Machine Sys2Proof.Claims

/-- The operand that a read-class instruction's source stands for (R138). -/
def sourceOperand : Source → Operand
  | .immediate imm => .immediate imm
  | .memory o => .memory o

/-- What `exec` runs an instruction as. The instructions of a class are those without a stack rule of their own; the ten of
46_stack_control.md stand one by one. -/
inductive Shape : Instr → Prop where
  | read {i : Instr} (src : Source) (handler : Byte → State → State)
      (runs : ∀ s, exec i s = readClass src handler s) (keepsBus : ∀ m s, (handler m s).bus = s.bus)
      (operand : i.operand = sourceOperand src) (ofClass : accessClass i = .read) (noStack : ∀ s, stackTouches s i = []) :
      Shape i
  | write {i : Instr} (o : MemOperand) (value : State → Byte)
      (runs : ∀ s, exec i s = writeClass o (value s) s)
      (operand : i.operand = .memory o) (ofClass : accessClass i = .write) (noStack : ∀ s, stackTouches s i = []) :
      Shape i
  | accumulator {i : Instr} (f : Byte → Byte → Byte × Byte)
      (runs : ∀ s, exec i s = modifyClass .accumulator f s)
      (operand : i.operand = .accumulator) (ofClass : accessClass i = .accumulator)
      (noStack : ∀ s, stackTouches s i = []) : Shape i
  | modify {i : Instr} (o : MemOperand) (f : Byte → Byte → Byte × Byte)
      (runs : ∀ s, exec i s = modifyClass (.memory o) f s)
      (operand : i.operand = .memory o) (ofClass : accessClass i = .readModifyWrite)
      (noStack : ∀ s, stackTouches s i = []) : Shape i
  | branch {i : Instr} (rel : Byte) (cond : State → Bool)
      (runs : ∀ s, exec i s = branchClass rel (cond s) s)
      (operand : i.operand = .relative rel) (ofClass : accessClass i = .branch) (noStack : ∀ s, stackTouches s i = []) :
      Shape i
  | implied {i : Instr} (handler : State → State)
      (runs : ∀ s, exec i s = impliedClass handler s) (keepsBus : ∀ s, (handler s).bus = s.bus)
      (operand : i.operand = .implied) (ofClass : accessClass i = .implied) (noStack : ∀ s, stackTouches s i = []) :
      Shape i
  | brk : Shape .brk
  | jsr (addr : Addr) : Shape (.jsr addr)
  | rts : Shape .rts
  | rti : Shape .rti
  | jmpAbs (addr : Addr) : Shape (.jmpAbs addr)
  | jmpInd (addr : Addr) : Shape (.jmpInd addr)
  | pha : Shape .pha
  | php : Shape .php
  | pla : Shape .pla
  | plp : Shape .plp

/-- Every instruction has a shape. -/
theorem exec_shape (i : Instr) : Shape i := by
  cases i with
  | adcImm | adcZp | adcZpX | adcAbs | adcAbsX | adcAbsY | adcIndX | adcIndY
  | sbcImm | sbcZp | sbcZpX | sbcAbs | sbcAbsX | sbcAbsY | sbcIndX | sbcIndY
  | andImm | andZp | andZpX | andAbs | andAbsX | andAbsY | andIndX | andIndY
  | oraImm | oraZp | oraZpX | oraAbs | oraAbsX | oraAbsY | oraIndX | oraIndY
  | eorImm | eorZp | eorZpX | eorAbs | eorAbsX | eorAbsY | eorIndX | eorIndY | bitZp | bitAbs
  | cmpImm | cmpZp | cmpZpX | cmpAbs | cmpAbsX | cmpAbsY | cmpIndX | cmpIndY
  | cpxImm | cpxZp | cpxAbs | cpyImm | cpyZp | cpyAbs
  | ldaImm | ldaZp | ldaZpX | ldaAbs | ldaAbsX | ldaAbsY | ldaIndX | ldaIndY
  | ldxImm | ldxZp | ldxZpY | ldxAbs | ldxAbsY | ldyImm | ldyZp | ldyZpX | ldyAbs | ldyAbsX =>
    exact .read _ _ (fun _ => rfl) (fun _ _ => rfl) rfl rfl fun _ => rfl
  | staZp | staZpX | staAbs | staAbsX | staAbsY | staIndX | staIndY | stxZp | stxZpY | stxAbs | styZp | styZpX | styAbs =>
    exact .write _ _ (fun _ => rfl) rfl rfl fun _ => rfl
  | aslAcc | lsrAcc | rolAcc | rorAcc => exact .accumulator _ (fun _ => rfl) rfl rfl fun _ => rfl
  | aslZp | aslZpX | aslAbs | aslAbsX | lsrZp | lsrZpX | lsrAbs | lsrAbsX
  | rolZp | rolZpX | rolAbs | rolAbsX | rorZp | rorZpX | rorAbs | rorAbsX
  | incZp | incZpX | incAbs | incAbsX | decZp | decZpX | decAbs | decAbsX =>
    exact .modify _ _ (fun _ => rfl) rfl rfl fun _ => rfl
  | bcc | bcs | beq | bne | bmi | bpl | bvc | bvs => exact .branch _ _ (fun _ => rfl) rfl rfl fun _ => rfl
  | inx | iny | dex | dey | clc | cld | cli | clv | sec | sed | sei | tax | tay | txa | tya | tsx | txs | nop =>
    exact .implied _ (fun _ => rfl) (fun _ => rfl) rfl rfl fun _ => rfl
  | brk => exact .brk
  | jsr addr => exact .jsr addr
  | rts => exact .rts
  | rti => exact .rti
  | jmpAbs addr => exact .jmpAbs addr
  | jmpInd addr => exact .jmpInd addr
  | pha => exact .pha
  | php => exact .php
  | pla => exact .pla
  | plp => exact .plp

end Sys2Proof.Proofs
end

section
/-!
Which bus accesses an operation makes (spec/20_memory.md R78, R79): the log of the bus without its bytes, operation by operation,
up to the whole step.
-/

namespace Sys2Proof.Proofs

open Sys2Proof.Machine Sys2Proof.Claims

/-- The log of a bus without the bytes: what the spec lists for a step (R78). -/
def touches (b : Bus) : List (Bool × Addr) := b.log.map touch

@[simp] theorem touches_readByte (b : Bus) (a : Addr) : touches (b.readByte a).2 = touches b ++ [(false, a)] := by
  simp [touches, touch]

@[simp] theorem touches_writeByte (b : Bus) (a : Addr) (v : Byte) :
    touches (b.writeByte a v) = touches b ++ [(true, a)] := by
  simp [touches, touch]

@[simp] theorem touches_clearLog (s : State) : touches s.clearLog.bus = [] := rfl

@[simp] theorem clearLog_pc (s : State) : s.clearLog.pc = s.pc := rfl

/-! The fetch (R131 to R133). -/

/-- What an opcode byte selects, seen through a function of the form: the byte's entry in the map seen through it. -/
theorem decodeOpcode_map {α : Type} (g : Form → α) (op : Byte) :
    (decodeOpcode op).map g =
      ((opcodeMap.map (List.map (Option.map g))).getD (op.toNat / 16) []).getD (op.toNat % 16) none := by
  have hrow : (opcodeMap.map (List.map (Option.map g))).getD (op.toNat / 16) [] =
      (opcodeMap.getD (op.toNat / 16) []).map (Option.map g) := List.getD_map _ [] (List.map (Option.map g))
  rw [hrow]
  exact (List.getD_map _ none (Option.map g)).symm

/-- Row by row of the map, the instructions of a form have a mode of the form's length, whatever their operand bytes (R101). -/
theorem opcodeMap_modeLength :
    opcodeMap.map (List.map (Option.map fun f b1 b2 => modeLength (f.instr b1 b2).mode)) =
      opcodeMap.map (List.map (Option.map fun f _ _ => f.length)) := rfl

/-- The instruction an opcode byte selects has a mode of its form's length, whatever its operand bytes (R101, R111). -/
theorem modeLength_of_decodeOpcode {op : Byte} {f : Form} (h : decodeOpcode op = some f) (b1 b2 : Byte) :
    modeLength (f.instr b1 b2).mode = f.length := by
  have hmap := decodeOpcode_map (fun f b1 b2 => modeLength (f.instr b1 b2).mode) op
  rw [opcodeMap_modeLength, ← decodeOpcode_map, h] at hmap
  exact congrFun (congrFun (Option.some.inj hmap) b1) b2

/-- A fetch that completes has read a mapped opcode byte, and then the operand bytes of its form (R131 to R133). -/
theorem fetch_ok {s u : State} {i : Instr} (h : s.fetch = .ok (i, u)) :
    ∃ f, decodeOpcode (s.clearLog.memRead s.pc).1 = some f ∧ (s.clearLog.memRead s.pc).2.fetchOperands f = (i, u) := by
  unfold State.fetch at h
  simp only at h
  split at h
  · cases h
  · next f hf => exact ⟨f, hf, Except.ok.inj h⟩

/-- The operand fetch gives an instruction of the form. -/
theorem fetchOperands_instr (s : State) (f : Form) : ∃ b1 b2, (s.fetchOperands f).1 = f.instr b1 b2 := by
  cases f with
  | one i => exact ⟨0, 0, rfl⟩
  | two build => exact ⟨_, 0, rfl⟩
  | three build => exact ⟨_, _, rfl⟩

/-- Opcode and operand bytes are read one after the other from PC on, as many as the form has (R131, R133). -/
theorem touches_fetchOperands (s : State) (f : Form) :
    touches ((s.clearLog.memRead s.pc).2.fetchOperands f).2.bus =
      (List.range f.length).map fun k => (false, s.pc + BitVec.ofNat 16 k) := by
  cases f <;> simp [State.fetchOperands, Form.length, List.range_succ]

theorem touches_fetch {s u : State} {i : Instr} (h : s.fetch = .ok (i, u)) : touches u.bus = fetchTouches s i := by
  obtain ⟨f, hf, hops⟩ := fetch_ok h
  obtain ⟨b1, b2, hinstr⟩ : ∃ b1 b2, i = f.instr b1 b2 := by
    simpa only [hops] using fetchOperands_instr (s.clearLog.memRead s.pc).2 f
  have htouches := touches_fetchOperands s f
  rw [hops] at htouches
  rw [htouches, fetchTouches, hinstr, modeLength_of_decodeOpcode hf]

/-! The operand (R137 to R151). -/

/-- Forming an effective address reads the pointer of its mode (R149, R150). -/
theorem touches_effectiveAddress (s : State) (o : MemOperand) :
    touches (s.effectiveAddress o).2.bus = touches s.bus ++ pointerTouches s (.memory o) := by
  cases o <;> simp [State.effectiveAddress, State.zeroPagePointer, pointerTouches]

/-- The resolver gives a memory operand's effective address whether or not the class reads there (R138). -/
theorem resolveInstr_ea {i : Instr} {o : MemOperand} (s : State) (operand : i.operand = .memory o) :
    (s.resolveInstr i).1.ea = some (s.effectiveAddress o).1 := by
  rw [State.resolveInstr, operand]
  cases accessClass i <;> rfl

/-! The classes (R136, R78 items 3 to 5). -/

/-- Without a stack rule an instruction makes its pointer reads and its data access. -/
theorem executeTouches_of_noStack {i : Instr} {s : State} (h : stackTouches s i = []) :
    executeTouches s i = pointerTouches s i.operand ++ dataTouches s i := by
  rw [executeTouches, h, List.append_nil]

/-- A read-class instruction reads its pointer and then its operand, and nothing where the operand is a byte of its own (R138). -/
theorem touches_sourceValue {i : Instr} (s : State) (src : Source) (ofClass : accessClass i = .read)
    (operand : i.operand = sourceOperand src) :
    touches (s.sourceValue src).2.bus = touches s.bus ++ (pointerTouches s i.operand ++ dataTouches s i) := by
  cases src with
  | immediate imm =>
    simp [State.sourceValue, dataTouches, State.resolveInstr, State.resolve, ofClass, operand, sourceOperand, pointerTouches]
  | memory o =>
    simp [State.sourceValue, dataTouches, ofClass, operand, sourceOperand, touches_effectiveAddress, resolveInstr_ea s operand]

/-- The accesses of an instruction after its fetch, by its shape (R78). -/
theorem touches_exec (i : Instr) {s t : State} (h : exec i s = .next t) :
    touches t.bus = touches s.bus ++ executeTouches s i := by
  cases exec_shape i with
  | read src handler runs keepsBus operand ofClass noStack =>
    rw [runs, readClass_eq] at h
    cases h
    rw [State.commit_bus, keepsBus, touches_sourceValue s src ofClass operand, executeTouches_of_noStack (noStack s)]
  | write o value runs operand ofClass noStack =>
    rw [runs, writeClass_eq] at h
    cases h
    simp [executeTouches_of_noStack (noStack s), operand, touches_effectiveAddress, dataTouches, ofClass,
      resolveInstr_ea s operand]
  | accumulator f runs operand ofClass noStack =>
    rw [runs, modifyClass_accumulator] at h
    cases h
    simp [executeTouches_of_noStack (noStack s), operand, dataTouches, pointerTouches, ofClass]
  | modify o f runs operand ofClass noStack =>
    rw [runs, modifyClass_memory] at h
    cases h
    simp [executeTouches_of_noStack (noStack s), operand, touches_effectiveAddress, dataTouches, ofClass,
      resolveInstr_ea s operand]
  | branch rel cond runs operand ofClass noStack =>
    rw [runs, branchClass_eq] at h
    cases h
    simp [executeTouches_of_noStack (noStack s), operand, dataTouches, pointerTouches, ofClass]
  | implied handler runs keepsBus operand ofClass noStack =>
    rw [runs, impliedClass_eq] at h
    cases h
    simp [executeTouches_of_noStack (noStack s), operand, dataTouches, pointerTouches, ofClass, keepsBus]
  | brk =>
    have he : executeTouches s .brk = [(true, stackBelow s 0), (true, stackBelow s 1), (true, stackBelow s 2),
      (false, irqVector), (false, irqVector + 1)] := rfl
    cases h
    simp [he, stackBelow_zero, stackBelow_one, stackBelow_two, State.enter_eq]
  | jsr addr =>
    have he : executeTouches s (.jsr addr) = [(true, stackBelow s 0), (true, stackBelow s 1)] := rfl
    cases h
    simp [he, stackBelow_zero, stackBelow_one, State.pushWord_eq]
  | rts =>
    have he : executeTouches s .rts = [(false, stackAbove s 1), (false, stackAbove s 2)] := rfl
    cases h
    simp [he, stackAbove_one, stackAbove_two, State.pullWord_snd]
  | rti =>
    have he : executeTouches s .rti = [(false, stackAbove s 1), (false, stackAbove s 2), (false, stackAbove s 3)] := rfl
    cases h
    simp [he, stackAbove_one, stackAbove_two, stackAbove_three, State.returnFromInterrupt_eq]
  | jmpAbs addr =>
    have he : executeTouches s (.jmpAbs addr) = [] := rfl
    cases h
    simp [he]
  | jmpInd addr =>
    have he : executeTouches s (.jmpInd addr) = [(false, addr), (false, nextInPage addr)] := rfl
    cases h
    simp [he, State.indirectTarget]
  | pha =>
    have he : executeTouches s .pha = [(true, stackBelow s 0)] := rfl
    cases h
    simp [he, stackBelow_zero]
  | php =>
    have he : executeTouches s .php = [(true, stackBelow s 0)] := rfl
    cases h
    simp [he, stackBelow_zero]
  | pla =>
    have he : executeTouches s .pla = [(false, stackAbove s 1)] := rfl
    cases h
    simp [he, stackAbove_one, putA]
  | plp =>
    have he : executeTouches s .plp = [(false, stackAbove s 1)] := rfl
    cases h
    simp [he, stackAbove_one]

/-- Settles O12: the log of the fetch, then that of the instruction's shape. -/
theorem busAccessesOfAStepInOrder : Obligations.BusAccessesOfAStepInOrder := by
  intro s u t i hfetch hstep
  rw [step, hfetch] at hstep
  exact (touches_exec i hstep).trans (congrArg (· ++ executeTouches u i) (touches_fetch hfetch))

end Sys2Proof.Proofs
end

section
/-!
The opcode table (spec/30_encoding.md rules R107 and R108): the map from the opcode byte and the table by mnemonic spell the same
instructions. The entry of the map at a byte spells instructions with that opcode byte, an instruction stands in the row of its
mnemonic, and a cell of a row decodes to its mnemonic and mode.
-/

namespace Sys2Proof.Proofs

open Sys2Proof.Machine Sys2Proof.Claims

/-- A byte is mapped to a form when the form stands in the byte's row and column of the map (R107). -/
theorem decodeOpcode_eq_some_iff {op : Byte} {f : Form} :
    decodeOpcode op = some f ↔
      ∃ row, opcodeMap[op.toNat / 16]? = some row ∧ row[op.toNat % 16]? = some (some f) := by
  rw [decodeOpcode, List.getD_eq_getElem?_getD, List.getD_eq_getElem?_getD]
  cases opcodeMap[op.toNat / 16]? with
  | none => simp
  | some row => cases hentry : row[op.toNat % 16]? <;> simp [hentry]

/-- Row by row and column by column of the map, the instructions of a form have the opcode byte of that place, whatever their
operand bytes (R107). -/
theorem opcodeMap_opcode :
    opcodeMap.map (List.map (Option.map fun f b1 b2 => (f.instr b1 b2).opcode)) =
      opcodeMap.mapIdx fun hi row => row.mapIdx fun lo => Option.map fun _ _ _ => BitVec.ofNat 8 (16 * hi + lo) := (rfl)

/-- The instructions that an opcode byte selects have that opcode byte, whatever their operand bytes (R107, R111). -/
theorem opcode_of_decodeOpcode {op : Byte} {f : Form} (h : decodeOpcode op = some f) (b1 b2 : Byte) :
    (f.instr b1 b2).opcode = op := by
  obtain ⟨row, hrow, hentry⟩ := decodeOpcode_eq_some_iff.mp h
  have hplace := congrArg (fun t => t[op.toNat / 16]?.bind (·[op.toNat % 16]?)) opcodeMap_opcode
  simp only [List.getElem?_map, List.getElem?_mapIdx, hrow, hentry, Option.map_some, Option.bind_some,
    Option.some.injEq] at hplace
  calc (f.instr b1 b2).opcode = BitVec.ofNat 8 (16 * (op.toNat / 16) + op.toNat % 16) := congrFun (congrFun hplace b1) b2
    _ = op := by rw [Nat.div_add_mod, BitVec.ofNat_toNat, BitVec.setWidth_eq]

/-- Every instruction stands in the row of its mnemonic, with its opcode byte under its mode (R108). -/
theorem opcode_mode_mem_opcodeRow (i : Instr) : (i.opcode, i.mode) ∈ opcodeRow i.mnemonic := by
  have hrow : (opcodeRow i.mnemonic).contains (i.opcode, i.mode) = true := by cases i <;> rfl
  exact List.contains_iff_mem.mp hrow

/-- Every cell of a row decodes, and to an instruction of the row's mnemonic in the cell's mode (R108). -/
theorem decodeOpcode_of_mem_opcodeRow (m : Mnemonic) :
    ∀ cell ∈ opcodeRow m,
      (decodeOpcode cell.1).map (fun f => ((f.instr 0 0).mnemonic, (f.instr 0 0).mode)) = some (m, cell.2) := by
  cases m <;> decide

/-- Settles O3: an instruction stands in its mnemonic's row, and a cell's opcode byte decodes to an instruction of the cell. -/
theorem opcodeTableByMnemonic : Obligations.OpcodeTableByMnemonic := by
  refine ⟨fun m mode op => ⟨?spelled, ?cell⟩, fun op f => opcode_of_decodeOpcode⟩
  case spelled =>
    rintro ⟨i, rfl, rfl, rfl⟩
    exact opcode_mode_mem_opcodeRow i
  case cell =>
    intro hcell
    obtain ⟨f, hf, hpair⟩ := Option.map_eq_some_iff.mp (decodeOpcode_of_mem_opcodeRow m (op, mode) hcell)
    obtain ⟨hmnemonic, hmode⟩ := Prod.mk.inj hpair
    exact ⟨f.instr 0 0, hmnemonic, hmode, opcode_of_decodeOpcode hf 0 0⟩

end Sys2Proof.Proofs
end

section
/-!
Lengths, and the modes of a mnemonic (spec/30_encoding.md rules R101 and R108), as the statements on addressing need them.
-/

namespace Sys2Proof.Proofs

open Sys2Proof.Machine Sys2Proof.Claims

/-- An encoding has the length of its mode (R101). -/
theorem encode_length (i : Instr) : (encode i).length = modeLength i.mode := by cases i <;> rfl

/-- Instructions whose modes have one length have encodings of that length. -/
theorem encode_length_of_mode_mem {i : Instr} {modes : List Mode} {n : Nat} (hmem : i.mode ∈ modes)
    (hlength : ∀ mode ∈ modes, modeLength mode = n) : (encode i).length = n :=
  (encode_length i).trans (hlength i.mode hmem)

/-- A mode stands in the rows of some mnemonics only, and its instructions are of these (R108). -/
theorem mnemonic_mem_of_mode {i : Instr} {mode : Mode} {mnemonics : List Mnemonic} (hmode : i.mode = mode)
    (hrows : ∀ m, mode ∈ (opcodeRow m).map Prod.snd → m ∈ mnemonics) : i.mnemonic ∈ mnemonics :=
  hrows i.mnemonic (List.mem_map.mpr ⟨_, opcode_mode_mem_opcodeRow i, hmode⟩)

theorem mnemonic_of_zeroPageY {i : Instr} (hmode : i.mode = .zeroPageY) : i.mnemonic ∈ [.ldx, .stx] :=
  mnemonic_mem_of_mode hmode fun m => by cases m <;> decide

theorem mnemonic_of_indirect {i : Instr} (hmode : i.mode = .indirect) : i.mnemonic = .jmp :=
  List.mem_singleton.mp (mnemonic_mem_of_mode hmode fun m => by cases m <;> decide)

end Sys2Proof.Proofs
end

section
/-!
Effective addresses (spec/40_fetch_decode_execute.md rules R138 and R142 to R150): the address of each mode as a number, the two
bytes of each pointer, and the one read of the classes that fetch an operand value.
-/

namespace Sys2Proof.Proofs

open Sys2Proof.Machine

/-- Forming an address changes the bus alone, so that setting the bus after it is setting the bus of the state before. -/
theorem effectiveAddress_setBus (s : State) (o : MemOperand) (b : Bus) :
    (s.effectiveAddress o).2.setBus b = s.setBus b := by
  rw [State.effectiveAddress_snd, State.setBus_setBus]

/-- A class that fetches an operand value reads the byte at the effective address once, after the pointer reads (R138). -/
theorem resolve_memory_of_reads {c : AccessClass} (hreads : c.reads = true) (s : State) (o : MemOperand) :
    s.resolve c (.memory o) =
      ({ ea := some (s.effectiveAddress o).1,
         value := some ((s.effectiveAddress o).2.bus.answer (s.effectiveAddress o).1) },
        s.setBus ((s.effectiveAddress o).2.bus.readByte (s.effectiveAddress o).1).2) := by
  simp [State.resolve, hreads, effectiveAddress_setBus]

/-- An absolute address plus an index, modulo 65 536 (R146, R147). -/
theorem word_add_zext16_toNat (hi lo index : Byte) :
    (word hi lo + zext16 index).toNat = (256 * hi.toNat + lo.toNat + index.toNat) % 65536 := by
  rw [BitVec.toNat_add, word_toNat, zext16_toNat]

/-- The byte after a zero-page byte, modulo 256 (R149, R150). -/
theorem zext16_add_one_toNat (zp : Byte) : (zext16 (zp + 1)).toNat = (zp.toNat + 1) % 256 := by
  rw [zext16_toNat, BitVec.toNat_add]
  rfl

/-- Settles O13: each mode by its definition, read as a number; the classes by their one read. -/
theorem effectiveAddressesWithoutPointer : Obligations.EffectiveAddressesWithoutPointer := by
  intro s zp b1 b2
  refine ⟨⟨zext16_toNat zp, rfl⟩, ⟨indexZeroPage_toNat zp s.x, rfl⟩, ⟨indexZeroPage_toNat zp s.y, rfl⟩,
    ⟨word_toNat b2 b1, rfl⟩, ⟨word_add_zext16_toNat b2 b1 s.x, rfl⟩, ⟨word_add_zext16_toNat b2 b1 s.y, rfl⟩,
    fun o c hc => ?reads, fun w => ⟨rfl, rfl⟩, fun i => ⟨fun h => ?two, fun h => ?three, mnemonic_of_zeroPageY⟩⟩
  case reads =>
    have hreads : ∀ c ∈ [AccessClass.read, AccessClass.readModifyWrite], c.reads = true := by decide
    exact resolve_memory_of_reads (hreads c hc) s o
  case two => exact encode_length_of_mode_mem h (by decide)
  case three => exact encode_length_of_mode_mem h (by decide)

/-- Settles O14: each pointer is one little-endian word read, whose second address wraps inside its page. -/
theorem pointerModesReadLittleEndianInPage : Obligations.PointerModesReadLittleEndianInPage := by
  intro s ptr zp
  refine ⟨⟨ptr, nextInPage ptr, rfl, nextInPage_toNat ptr, ?indirect, State.readWord_snd s _ _⟩,
    ⟨zext16 (zp + s.x), zext16 (zp + s.x + 1), indexZeroPage_toNat zp s.x, ?nextX, ?indX, State.readWord_snd s _ _⟩,
    ⟨zext16 zp, zext16 (zp + 1), zext16_toNat zp, zext16_add_one_toNat zp, ?indY, State.readWord_snd s _ _⟩,
    fun i => ⟨fun h => ?two, fun h => ⟨mnemonic_of_indirect h, ?three⟩⟩⟩
  case indirect => rw [State.indirectTarget, State.readWord_fst, word_toNat]
  case nextX => rw [zext16_add_one_toNat, BitVec.toNat_add, Nat.mod_add_mod]
  case indX => rw [State.effectiveAddress, State.zeroPagePointer, State.readWord_fst, word_toNat]
  case indY => simp only [State.effectiveAddress, State.zeroPagePointer, State.readWord_fst, word_add_zext16_toNat]
  case two => exact encode_length_of_mode_mem h (by decide)
  case three => rw [encode_length, h]; rfl

end Sys2Proof.Proofs
end

section
/-!
The commit of a step (spec/40_fetch_decode_execute.md rules R134 and R135): every instruction ends in one `State.commit` with the
length of its mode, with an override or with PC still where the step found it.
-/

namespace Sys2Proof.Proofs

open Sys2Proof.Machine Sys2Proof.Claims

/-- Does the handler of an instruction override PC (R135)? -/
def overridesPC (i : Instr) (s : State) : Bool :=
  match i.mnemonic with
  | .jmp | .jsr | .rts | .rti | .brk => true
  | .bcc => !s.flag .carry
  | .bcs => s.flag .carry
  | .bne => !s.flag .zero
  | .beq => s.flag .zero
  | .bpl => !s.flag .negative
  | .bmi => s.flag .negative
  | .bvc => !s.flag .overflow
  | .bvs => s.flag .overflow
  | _ => false

/-- The override of a taken branch is there exactly when its condition holds (R210). -/
theorem isSome_branchOverride (cond : Bool) (target : Addr) : (if cond then some target else none).isSome = cond := by
  cases cond <;> rfl

/-- Every instruction ends in a commit with the length of its mode, and where there is no override its handler has left PC
(R134, R135). -/
theorem exec_eq_commit (i : Instr) (s : State) :
    ∃ (t : State) (override : Option Addr), exec i s = .next (t.commit (modeLength i.mode) override) ∧
      override.isSome = overridesPC i s ∧ (override = none → t.pc = s.pc) := by
  cases i with
  | adcImm | adcZp | adcZpX | adcAbs | adcAbsX | adcAbsY | adcIndX | adcIndY
  | sbcImm | sbcZp | sbcZpX | sbcAbs | sbcAbsX | sbcAbsY | sbcIndX | sbcIndY
  | andImm | andZp | andZpX | andAbs | andAbsX | andAbsY | andIndX | andIndY
  | oraImm | oraZp | oraZpX | oraAbs | oraAbsX | oraAbsY | oraIndX | oraIndY
  | eorImm | eorZp | eorZpX | eorAbs | eorAbsX | eorAbsY | eorIndX | eorIndY | bitZp | bitAbs
  | cmpImm | cmpZp | cmpZpX | cmpAbs | cmpAbsX | cmpAbsY | cmpIndX | cmpIndY
  | cpxImm | cpxZp | cpxAbs | cpyImm | cpyZp | cpyAbs
  | ldaImm | ldaZp | ldaZpX | ldaAbs | ldaAbsX | ldaAbsY | ldaIndX | ldaIndY
  | ldxImm | ldxZp | ldxZpY | ldxAbs | ldxAbsY | ldyImm | ldyZp | ldyZpX | ldyAbs | ldyAbsX =>
    exact ⟨_, none, rfl, rfl, fun _ => State.sourceValue_pc s _⟩
  | staZp | staZpX | staAbs | staAbsX | staAbsY | staIndX | staIndY | stxZp | stxZpY | stxAbs | styZp | styZpX | styAbs
  | aslZp | aslZpX | aslAbs | aslAbsX | lsrZp | lsrZpX | lsrAbs | lsrAbsX
  | rolZp | rolZpX | rolAbs | rolAbsX | rorZp | rorZpX | rorAbs | rorAbsX
  | incZp | incZpX | incAbs | incAbsX | decZp | decZpX | decAbs | decAbsX =>
    exact ⟨_, none, rfl, rfl, fun _ => State.effectiveAddress_pc s _⟩
  | aslAcc | lsrAcc | rolAcc | rorAcc
  | inx | iny | dex | dey | clc | cld | cli | clv | sec | sed | sei | tax | tay | txa | tya | tsx | txs | nop
  | pha | php | pla | plp =>
    exact ⟨_, none, rfl, rfl, fun _ => rfl⟩
  | bcc | bcs | beq | bne | bmi | bpl | bvc | bvs =>
    exact ⟨s, _, rfl, isSome_branchOverride _ _, fun _ => rfl⟩
  | brk | jsr | rts | rti | jmpAbs | jmpInd => exact ⟨_, some _, rfl, rfl, nofun⟩

/-- The override as the spec lists it: the jumps, the returns, BRK, and each branch with its condition (R135, R212 to R219). -/
theorem overridesPC_iff (i : Instr) (s : State) :
    overridesPC i s = true ↔
      i.mnemonic ∈ [.jmp, .jsr, .rts, .rti, .brk] ∨
      (i.mnemonic = .bcc ∧ s.flag .carry = false) ∨ (i.mnemonic = .bcs ∧ s.flag .carry = true) ∨
      (i.mnemonic = .bne ∧ s.flag .zero = false) ∨ (i.mnemonic = .beq ∧ s.flag .zero = true) ∨
      (i.mnemonic = .bpl ∧ s.flag .negative = false) ∨ (i.mnemonic = .bmi ∧ s.flag .negative = true) ∨
      (i.mnemonic = .bvc ∧ s.flag .overflow = false) ∨ (i.mnemonic = .bvs ∧ s.flag .overflow = true) := by
  rw [overridesPC]
  cases i.mnemonic <;> simp

/-- Without an override the commit moves PC past the instruction, modulo 65 536 (R134). -/
theorem commit_none_pc_toNat (s : State) (n : Nat) : (s.commit n none).pc.toNat = (s.pc.toNat + n) % 65536 := by
  rw [State.commit_pc, Option.getD_none, BitVec.toNat_add, BitVec.toNat_ofNat, Nat.add_mod_mod]

/-- Settles O11: the commit gives the StepResult, and PC where the handler gives no override. -/
theorem commitAndStepResult : Obligations.CommitAndStepResult := by
  intro i s
  obtain ⟨t, override, hexec, hoverride, hpc⟩ := exec_eq_commit i s
  refine ⟨_, hexec, overridesPC i s, ?result, overridesPC_iff i s, fun hnone => ?pc⟩
  case result => rw [State.commit_result, hoverride]
  case pc =>
    obtain rfl : override = none := Option.isNone_iff_eq_none.mp (Option.isSome_eq_false_iff.mp (hoverride.trans hnone))
    rw [commit_none_pc_toNat, hpc rfl]

end Sys2Proof.Proofs
end

section
/-!
P read through its flags (spec/10_state.md rules R26, R27 and R40 to R46): what a flag of the state is after P is written, for
every flag primitive at once, so that a statement about a handler's flags is a case split on the flag.
-/

namespace Sys2Proof.Machine

theorem Flag.bit_inj {f g : Flag} : f.bit = g.bit ↔ f = g := by cases f <;> cases g <;> decide

/-- `setFlag` writes its flag and keeps the others (R45). -/
@[simp] theorem testFlag_setFlag (p : Byte) (f g : Flag) (b : Bool) :
    testFlag (setFlag p f b) g = if g = f then b else testFlag p g := by
  simp only [testFlag_eq_getLsbD, setFlag_getLsbD, Flag.bit_inj]

@[simp] theorem testFlag_withCarry (p : Byte) (c : Bool) (g : Flag) :
    testFlag (withCarry p c) g = if g = .carry then c else testFlag p g := testFlag_setFlag p .carry g c

@[simp] theorem testFlag_withOverflow (p a b r : Byte) (g : Flag) :
    testFlag (withOverflow p a b r) g = if g = .overflow then signedOverflow a b r else testFlag p g :=
  testFlag_setFlag p .overflow g (signedOverflow a b r)

/-- `setNZ` writes Z and N and keeps the other flags (R46). -/
@[simp] theorem testFlag_setNZ (p v : Byte) (g : Flag) :
    testFlag (setNZ p v) g =
      if g = .negative then v.msb else if g = .zero then decide (v = 0#8) else testFlag p g := by
  rw [setNZ, withNegative_eq_setFlag, withZero_eq_setFlag, testFlag_setFlag, testFlag_setFlag, BitVec.msb_eq_getLsbD_last]

/-- The filter of P keeps every flag (R27). -/
@[simp] theorem testFlag_filterP (v : Byte) (f : Flag) : testFlag (filterP v) f = testFlag v f := by
  rw [testFlag_eq_getLsbD, testFlag_eq_getLsbD]
  cases f <;> simp [filterP, Flag.bit]

/-- The flags of P as it reads are the flags of the state. -/
theorem testFlag_status (s : State) (f : Flag) : testFlag s.status f = s.flag f := rfl

/-- A state whose P was last written with `v` has the flags of `v`. -/
theorem State.flag_of_p {t : State} {v : Byte} (hp : t.p = filterP v) (f : Flag) : t.flag f = testFlag v f := by
  rw [State.flag, State.status, hp, filterP_filterP, testFlag_filterP]

end Sys2Proof.Machine

namespace Sys2Proof.Proofs

open Sys2Proof.Machine Sys2Proof.Claims

/-- Where P was last written with a byte that has the flags of `s` outside a list, these are unchanged, and B and U stand as R27
asks. -/
theorem sameFlagsBut_of_p {s t : State} {fs : List Flag} {v : Byte} (hp : t.p = filterP v)
    (hkeep : ∀ f, f ∉ fs → testFlag v f = s.flag f) : SameFlagsBut fs s t := by
  refine ⟨fun f hf => (State.flag_of_p hp f).trans (hkeep f hf), ?_, ?_⟩
  · rw [hp, filterP_bit4]
  · rw [hp, filterP_bit5]

/-- Where P was last written by `setNZ`, Z and N follow its byte (R46). -/
theorem nzOf_of_p {t : State} {p r : Byte} (hp : t.p = filterP (setNZ p r)) : NZOf r t := by
  constructor <;> simp [State.flag_of_p hp]

end Sys2Proof.Proofs
end

section
/-!
The read class (spec/40_fetch_decode_execute.md rules R134, R136 and R138): which instructions run a handler on their operand
value, and that reading the operand is what the resolver does and leaves memory as it is.
-/

namespace Sys2Proof.Proofs

open Sys2Proof.Machine Sys2Proof.Claims

/-- The handler that a read-class mnemonic runs on its operand value (files 41, 42, 44 and 48 of the spec); the mnemonics of
the other classes have none. -/
def readHandler : Mnemonic → Byte → State → State
  | .adc => adc
  | .sbc => sbc
  | .and => and8
  | .ora => ora8
  | .eor => eor8
  | .bit => bit8
  | .cmp => cmp8
  | .cpx => cpx8
  | .cpy => cpy8
  | .lda => lda
  | .ldx => ldx
  | .ldy => ldy
  | _ => fun _ s => s

/-- A read-class instruction runs the handler of its mnemonic on its operand, in all its modes (R136). -/
theorem exec_of_read {i : Instr} (ofClass : accessClass i = .read) :
    ∃ src, i.operand = sourceOperand src ∧ ∀ s, exec i s = readClass src (readHandler i.mnemonic) s := by
  cases i with
  | adcImm | adcZp | adcZpX | adcAbs | adcAbsX | adcAbsY | adcIndX | adcIndY
  | sbcImm | sbcZp | sbcZpX | sbcAbs | sbcAbsX | sbcAbsY | sbcIndX | sbcIndY
  | andImm | andZp | andZpX | andAbs | andAbsX | andAbsY | andIndX | andIndY
  | oraImm | oraZp | oraZpX | oraAbs | oraAbsX | oraAbsY | oraIndX | oraIndY
  | eorImm | eorZp | eorZpX | eorAbs | eorAbsX | eorAbsY | eorIndX | eorIndY | bitZp | bitAbs
  | cmpImm | cmpZp | cmpZpX | cmpAbs | cmpAbsX | cmpAbsY | cmpIndX | cmpIndY
  | cpxImm | cpxZp | cpxAbs | cpyImm | cpyZp | cpyAbs
  | ldaImm | ldaZp | ldaZpX | ldaAbs | ldaAbsX | ldaAbsY | ldaIndX | ldaIndY
  | ldxImm | ldxZp | ldxZpY | ldxAbs | ldxAbsY | ldyImm | ldyZp | ldyZpX | ldyAbs | ldyAbsX =>
    exact ⟨_, rfl, fun _ => rfl⟩
  | _ => exact nomatch ofClass

/-- The resolver gives a read-class instruction its operand value, and makes the reads that fetch it (R138). -/
theorem resolveInstr_of_read {i : Instr} {src : Source} (operand : i.operand = sourceOperand src)
    (ofClass : accessClass i = .read) (s : State) :
    (s.resolveInstr i).1.value = some (s.sourceValue src).1 ∧ (s.resolveInstr i).2 = (s.sourceValue src).2 := by
  rw [State.resolveInstr, operand, ofClass]
  cases src <;> exact ⟨rfl, rfl⟩

/-- The length of a read-class operand is that of the instruction's mode (R101). -/
theorem length_of_operand {i : Instr} {src : Source} (operand : i.operand = sourceOperand src) :
    src.length = modeLength i.mode := by
  rw [Instr.mode, operand]
  cases src <;> rfl

/-- Fetching an operand value changes no byte of memory and not the map. -/
theorem sameMemory_sourceValue {s t : State} {src : Source} (hbus : t.bus = (s.sourceValue src).2.bus) :
    SameMemory s t := by
  constructor
  · intro c
    rw [State.byteAt, hbus, State.sourceValue_mem, State.byteAt]
  · rw [hbus, State.sourceValue_regions]

/-- A read-class instruction whose handler leaves PC and the bus reads its operand, touches nothing else and falls through. -/
theorem readsOperand_commit {i : Instr} {src : Source} (operand : i.operand = sourceOperand src)
    (ofClass : accessClass i = .read) {s t : State} (hpc : t.pc = s.pc) (hbus : t.bus = (s.sourceValue src).2.bus) :
    ReadsOperand i s (t.commit src.length none) (s.sourceValue src).1 := by
  obtain ⟨hvalue, hstate⟩ := resolveInstr_of_read operand ofClass s
  have hlength := length_of_operand operand
  refine ⟨hvalue, ⟨?reads, sameMemory_sourceValue hbus⟩, ?pc, ?result⟩
  case reads => rw [hstate, State.commit_bus, hbus]
  case pc => rw [State.commit_pc, Option.getD_none, hpc, hlength]
  case result => rw [State.commit_result, hlength]; rfl

/-- P has no part in fetching an operand value. -/
theorem sourceValue_setP (s : State) (p : Byte) (src : Source) :
    (s.setP p).sourceValue src = ((s.sourceValue src).1, (s.sourceValue src).2.setP p) := by
  cases src with
  | immediate imm => rfl
  | memory o => cases o <;> rfl

end Sys2Proof.Proofs
end

section
/-!
ADC and SBC (spec/41_arithmetic.md rules R170 to R173): the binary adder as numbers, what it makes of a state, and its readings as
a subtraction. P enters through the carry alone (R171).
-/

namespace Sys2Proof.Machine

/-! The adder (R170). -/

/-- The 9-bit sum of two bytes and a carry does not wrap. -/
theorem sum9_toNat (a b : Byte) (c : Bool) :
    (a.setWidth 9 + b.setWidth 9 + (BitVec.ofBool c).setWidth 9).toNat = a.toNat + b.toNat + c.toNat := by
  have ha := a.isLt
  have hb := b.isLt
  have hc := c.toNat_lt
  simp only [BitVec.toNat_add, BitVec.toNat_setWidth, BitVec.toNat_ofBool]
  omega

theorem addBytes_r_toNat (a b : Byte) (c : Bool) :
    (addBytes a b c).r.toNat = (a.toNat + b.toNat + c.toNat) % 256 := by
  rw [addBytes, BitVec.toNat_setWidth, sum9_toNat]

/-- The carry out is bit 8 of the sum. -/
theorem addBytes_cout (a b : Byte) (c : Bool) :
    (addBytes a b c).cout = decide (256 ≤ a.toNat + b.toNat + c.toNat) := by
  have ha := a.isLt
  have hb := b.isLt
  have hc := c.toNat_lt
  rw [addBytes, BitVec.getLsbD, sum9_toNat, Nat.testBit_eq_decide_div_mod_eq, decide_eq_decide]
  omega

/-- The overflow rule (R43) says that the signed sum leaves -128 to 127. -/
theorem signedOverflow_of_sum {a b r : Byte} {c : Bool} (hr : r.toNat = (a.toNat + b.toNat + c.toNat) % 256) :
    signedOverflow a b r = decide (a.toInt + b.toInt + c.toNat < -128 ∨ 127 < a.toInt + b.toInt + c.toNat) := by
  have ha := a.isLt
  have hb := b.isLt
  have hc := c.toNat_lt
  rw [signedOverflow, Bool.eq_iff_iff]
  simp only [BitVec.msb_eq_decide, BitVec.toInt_eq_toNat_cond, Bool.and_eq_true, beq_iff_eq, bne_iff_ne, ne_eq,
    decide_eq_decide, decide_eq_true_eq]
  omega

/-! Adding M XOR 0xFF is subtracting M with a borrow (R173). -/

theorem xor_0xFF_toNat (m : Byte) : (m ^^^ 0xFF#8).toNat = 255 - m.toNat := by
  rw [show (0xFF#8 : Byte) = BitVec.allOnes 8 from rfl, BitVec.xor_allOnes, BitVec.toNat_not]

theorem xor_0xFF_toInt (m : Byte) : (m ^^^ 0xFF#8).toInt = -m.toInt - 1 := by
  have hm := m.isLt
  simp only [BitVec.toInt_eq_toNat_cond, xor_0xFF_toNat]
  omega

end Sys2Proof.Machine

namespace Sys2Proof.Proofs

open Sys2Proof.Machine Sys2Proof.Claims

/-- What the shared handler makes of a state whatever its bus, seen past the commit (R170, R172). -/
theorem addsToA_addToA (s : State) (bus : Bus) (b : Byte) (n : Nat) :
    AddsToA s ((addToA b (s.setBus bus)).commit n none) b := by
  have ha : ((addToA b (s.setBus bus)).commit n none).a = (addBytes s.a b (s.flag .carry)).r := rfl
  have hp : ((addToA b (s.setBus bus)).commit n none).p =
      filterP (setNZ (withOverflow (withCarry s.status (addBytes s.a b (s.flag .carry)).cout) s.a b
        (addBytes s.a b (s.flag .carry)).r) (addBytes s.a b (s.flag .carry)).r) := rfl
  refine ⟨rfl, ?sum, ?carry, ?overflow, nzOf_of_p (ha ▸ hp), sameFlagsBut_of_p hp ?others, ⟨rfl, rfl⟩, ⟨rfl, rfl⟩, rfl⟩
  case sum => rw [ha, addBytes_r_toNat]
  case carry => simp [State.flag_of_p hp, addBytes_cout]
  case overflow => rw [State.flag_of_p hp, ha]; simp [signedOverflow]
  case others =>
    intro f hf
    simp only [List.mem_cons, List.not_mem_nil, or_false, not_or] at hf
    simp [hf, testFlag_status]

/-- The sum and its flags are fixed by A, the addend and the carry (R171). -/
theorem addsToA_congr {s s' t u : State} {b : Byte} (hadd : AddsToA s t b) (hadd' : AddsToA s' u b) (ha : s'.a = s.a)
    (hcarry : s'.flag .carry = s.flag .carry) :
    u.a = t.a ∧ ∀ f ∈ [Flag.carry, .overflow, .zero, .negative], u.flag f = t.flag f := by
  obtain ⟨-, hsum, hC, hV, ⟨hZ, hN⟩, -⟩ := hadd
  obtain ⟨-, hsum', hC', hV', ⟨hZ', hN'⟩, -⟩ := hadd'
  have hA : u.a = t.a := BitVec.eq_of_toNat_eq (by rw [hsum, hsum', ha, hcarry])
  refine ⟨hA, ?_⟩
  simp only [List.forall_mem_cons, List.not_mem_nil, false_imp_iff, implies_true, and_true]
  refine ⟨?_, ?_, ?_, ?_⟩
  · rw [hC, hC', ha, hcarry]
  · rw [hV, hV', ha, hA]
  · rw [hZ, hZ', hA]
  · rw [hN, hN', hA]

/-- A read-class instruction whose handler adds a byte made of its operand value completes, adds that byte to A, and reads its
operand alone. -/
theorem exec_addToA {i : Instr} {addend : Byte → Byte} (ofClass : accessClass i = .read)
    (handler : readHandler i.mnemonic = fun m => addToA (addend m)) :
    ∃ src : Source, ∀ s, Completes i s fun t =>
      ReadsOperand i s t (s.sourceValue src).1 ∧ AddsToA s t (addend (s.sourceValue src).1) := by
  obtain ⟨src, operand, runs⟩ := exec_of_read ofClass
  refine ⟨src, fun s => ⟨_, by rw [runs, readClass_eq, handler], ?reads, ?adds⟩⟩
  case reads => exact readsOperand_commit operand ofClass (State.sourceValue_pc s src) rfl
  case adds =>
    rw [State.sourceValue_snd]
    exact addsToA_addToA s _ _ _

theorem exec_adc {i : Instr} (h : i.mnemonic = .adc) :
    ∃ src : Source, ∀ s, Completes i s fun t =>
      ReadsOperand i s t (s.sourceValue src).1 ∧ AddsToA s t (s.sourceValue src).1 :=
  exec_addToA (addend := id) (by rw [accessClass, h]) (by rw [h]; rfl)

theorem exec_sbc {i : Instr} (h : i.mnemonic = .sbc) :
    ∃ src : Source, ∀ s, Completes i s fun t =>
      ReadsOperand i s t (s.sourceValue src).1 ∧ AddsToA s t ((s.sourceValue src).1 ^^^ 0xFF#8) :=
  exec_addToA (addend := (· ^^^ 0xFF#8)) (by rw [accessClass, h]) (by rw [h]; rfl)

/-- Settles O27: ADC adds its operand value itself. -/
theorem adcAddsWithCarry : Obligations.AdcAddsWithCarry := by
  intro i s h
  obtain ⟨src, hexec⟩ := exec_adc h
  obtain ⟨t, ht, hspec⟩ := hexec s
  exact ⟨opcode_mode_mem_opcodeRow i, t, ht, _, hspec⟩

section

variable {s t : State} {m : Byte}

/-! An addition of M XOR 0xFF read as the subtraction of M and the borrow 1 - C (R173). -/

theorem sub_of_addsToA_xor (h : AddsToA s t (m ^^^ 0xFF#8)) :
    (t.a.toNat : Int) = ((s.a.toNat : Int) - m.toNat - (1 - (s.flag .carry).toNat)) % 256 := by
  obtain ⟨-, hsum, -⟩ := h
  have hm := m.isLt
  rw [hsum, xor_0xFF_toNat]
  omega

theorem noBorrow_of_addsToA_xor (h : AddsToA s t (m ^^^ 0xFF#8)) :
    t.flag .carry = decide (m.toNat + (1 - (s.flag .carry).toNat) ≤ s.a.toNat) := by
  obtain ⟨-, -, hcarry, -⟩ := h
  have hm := m.isLt
  have hc := (s.flag .carry).toNat_lt
  rw [hcarry, xor_0xFF_toNat, decide_eq_decide]
  omega

theorem overflow_of_addsToA_xor (h : AddsToA s t (m ^^^ 0xFF#8)) :
    t.flag .overflow =
      decide (s.a.toInt - m.toInt - (1 - ((s.flag .carry).toNat : Int)) < -128 ∨
        127 < s.a.toInt - m.toInt - (1 - ((s.flag .carry).toNat : Int))) := by
  obtain ⟨-, hsum, -, hoverflow, -⟩ := h
  rw [hoverflow, ← signedOverflow, signedOverflow_of_sum hsum, xor_0xFF_toInt, decide_eq_decide]
  omega

end

/-- Settles O28: SBC adds M XOR 0xFF, which is a subtraction in each of the three readings. -/
theorem sbcSubtractsWithBorrow : Obligations.SbcSubtractsWithBorrow := by
  intro i s h
  obtain ⟨src, hexec⟩ := exec_sbc h
  obtain ⟨t, ht, hreads, hadds⟩ := hexec s
  exact ⟨opcode_mode_mem_opcodeRow i, t, ht, _, hreads, hadds, sub_of_addsToA_xor hadds, noBorrow_of_addsToA_xor hadds,
    overflow_of_addsToA_xor hadds⟩

/-- ADC and SBC add a byte made of the operand value alone. -/
theorem exec_adc_or_sbc {i : Instr} (h : i.mnemonic ∈ [.adc, .sbc]) :
    ∃ (src : Source) (addend : Byte → Byte), ∀ s, ∃ t, exec i s = .next t ∧
      AddsToA s t (addend (s.sourceValue src).1) := by
  rw [List.mem_pair] at h
  obtain h | h := h
  · obtain ⟨src, hexec⟩ := exec_adc h
    exact ⟨src, id, fun s => (hexec s).imp fun t ⟨ht, _, hadds⟩ => ⟨ht, hadds⟩⟩
  · obtain ⟨src, hexec⟩ := exec_sbc h
    exact ⟨src, (· ^^^ 0xFF#8), fun s => (hexec s).imp fun t ⟨ht, _, hadds⟩ => ⟨ht, hadds⟩⟩

/-- An addition to A leaves D (R171). -/
theorem decimal_of_addsToA {s t : State} {b : Byte} (h : AddsToA s t b) : t.flag .decimal = s.flag .decimal := by
  obtain ⟨-, -, -, -, -, ⟨hkeep, -⟩, -⟩ := h
  exact hkeep .decimal (by decide)

/-- Settles O29: both states give the same operand value, A and carry, and these fix the sum and its flags. -/
theorem decimalModeHasNoArithmeticEffect : Obligations.DecimalModeHasNoArithmeticEffect := by
  intro i s p hi hcarry
  obtain ⟨src, addend, hexec⟩ := exec_adc_or_sbc hi
  obtain ⟨t, ht, hadds⟩ := hexec s
  obtain ⟨u, hu, hadds'⟩ := hexec (s.setP p)
  have hsame : AddsToA (s.setP p) u (addend (s.sourceValue src).1) := by simpa only [sourceValue_setP] using hadds'
  obtain ⟨hA, hflags⟩ := addsToA_congr hadds hsame rfl hcarry
  exact ⟨t, u, ht, hu, hA, hflags, decimal_of_addsToA hadds, decimal_of_addsToA hadds'⟩

end Sys2Proof.Proofs
end

section
/-!
AND, ORA, EOR and BIT (spec/42_logical.md rules R180 to R184): what a read-class instruction does once its handler is known, what
writing A with its flags makes of a state, and the flags of BIT.
-/

namespace Sys2Proof.Machine

/-- BIT writes Z from A AND M, and N and V from bits 7 and 6 of M (R184). -/
@[simp] theorem testFlag_bitP (p a m : Byte) (g : Flag) :
    testFlag (bitP p a m) g =
      if g = .overflow then m.getLsbD 6 else if g = .negative then m.getLsbD 7
      else if g = .zero then decide (a &&& m = 0#8) else testFlag p g := by
  rw [bitP, withNegative_eq_setFlag, withZero_eq_setFlag, testFlag_setFlag, testFlag_setFlag, testFlag_setFlag]

end Sys2Proof.Machine

namespace Sys2Proof.Proofs

open Sys2Proof.Machine Sys2Proof.Claims

/-- A read-class instruction whose handler leaves PC and the bus completes, reads its operand alone, and does to the state what
its handler does whatever the bus. -/
theorem completes_of_readHandler {i : Instr} {s : State} {handler : Byte → State → State} {post : Byte → State → Prop}
    (ofClass : accessClass i = .read) (handler_eq : readHandler i.mnemonic = handler)
    (keepsPC : ∀ m u, (handler m u).pc = u.pc) (keepsBus : ∀ m u, (handler m u).bus = u.bus)
    (spec : ∀ m bus n, post m ((handler m (s.setBus bus)).commit n none)) :
    Completes i s fun t => ∃ m, ReadsOperand i s t m ∧ post m t := by
  obtain ⟨src, operand, runs⟩ := exec_of_read ofClass
  refine ⟨_, by rw [runs, readClass_eq, handler_eq], _, readsOperand_commit operand ofClass ?pc (keepsBus _ _), ?post⟩
  case pc => rw [keepsPC, State.sourceValue_pc]
  case post =>
    rw [State.sourceValue_snd]
    exact spec _ _ _

/-- `A <- r; P <- setNZ(P, r)`, seen past the commit, whatever the bus (R180). -/
theorem putA_commit (s : State) (bus : Bus) (r : Byte) (n : Nat) :
    let t := (putA r (s.setBus bus)).commit n none
    WroteA r t ∧ NZOf r t ∧ SameFlagsBut [.zero, .negative] s t ∧ SameX s t ∧ SameY s t ∧ t.sp = s.sp := by
  intro t
  have hp : t.p = filterP (setNZ s.status r) := rfl
  refine ⟨⟨rfl, rfl⟩, nzOf_of_p hp, sameFlagsBut_of_p hp ?others, ⟨rfl, rfl⟩, ⟨rfl, rfl⟩, rfl⟩
  case others =>
    intro f hf
    simp only [List.mem_cons, List.not_mem_nil, or_false, not_or] at hf
    simp [hf, testFlag_status]

/-- AND, ORA and EOR are read-class, and their handlers write A with their operation of A and M (R181 to R183). -/
theorem readHandler_of_logical {i : Instr} {f : Byte → Byte → Byte}
    (h : (i.mnemonic, f) = (.and, fun a m => a &&& m) ∨ (i.mnemonic, f) = (.ora, fun a m => a ||| m) ∨
      (i.mnemonic, f) = (.eor, fun a m => a ^^^ m)) :
    accessClass i = .read ∧ readHandler i.mnemonic = fun m u => putA (f u.a m) u := by
  simp only [Prod.mk.injEq] at h
  rw [accessClass]
  obtain ⟨hm, rfl⟩ | ⟨hm, rfl⟩ | ⟨hm, rfl⟩ := h
  all_goals
    rw [hm]
    exact ⟨rfl, rfl⟩

/-- Settles O30: each handler is one write of A with its flags. -/
theorem logicalInstructionsCombineIntoA : Obligations.LogicalInstructionsCombineIntoA := by
  intro i s f h
  obtain ⟨ofClass, handler_eq⟩ := readHandler_of_logical h
  exact ⟨opcode_mode_mem_opcodeRow i, completes_of_readHandler ofClass handler_eq (fun _ _ => rfl) (fun _ _ => rfl)
    fun m bus n => putA_commit s bus (f s.a m) n⟩

/-- The handler of BIT, seen past the commit, whatever the bus (R184). -/
theorem bit8_commit (s : State) (bus : Bus) (m : Byte) (n : Nat) :
    let t := (bit8 m (s.setBus bus)).commit n none
    t.flag .negative = m.getLsbD 7 ∧ t.flag .overflow = m.getLsbD 6 ∧ t.flag .zero = decide (s.a &&& m = 0#8) ∧
      SameFlagsBut [.zero, .negative, .overflow] s t ∧ SameRegisters s t := by
  intro t
  have hp : t.p = filterP (bitP s.status s.a m) := rfl
  refine ⟨?negative, ?overflow, ?zero, sameFlagsBut_of_p hp ?others, ⟨rfl, rfl⟩, ⟨rfl, rfl⟩, ⟨rfl, rfl⟩, rfl⟩
  case negative => simp [State.flag_of_p hp]
  case overflow => simp [State.flag_of_p hp]
  case zero => simp [State.flag_of_p hp]
  case others =>
    intro f hf
    simp only [List.mem_cons, List.not_mem_nil, or_false, not_or] at hf
    simp [hf, testFlag_status]

/-- Settles O31: BIT's handler writes the three flags and nothing else. -/
theorem bitTestsMemoryAndKeepsA : Obligations.BitTestsMemoryAndKeepsA := by
  intro i s h
  have ofClass : accessClass i = .read := by rw [accessClass, h]
  have handler_eq : readHandler i.mnemonic = bit8 := by rw [h]; rfl
  exact ⟨opcode_mode_mem_opcodeRow i, completes_of_readHandler ofClass handler_eq (fun _ _ => rfl) (fun _ _ => rfl)
    fun m bus n => bit8_commit s bus m n⟩

end Sys2Proof.Proofs
end

section
/-!
The accumulator and read-modify-write classes (spec/40_fetch_decode_execute.md R136 and R138, 43_shift_rotate.md R190): which
instructions take their operand value to a result, and that the result is stored where the value came from and nowhere else.
-/

namespace Sys2Proof.Proofs

open Sys2Proof.Machine Sys2Proof.Claims

/-- What a shift, a rotate, INC or DEC makes of its operand value and P: the result and the new P (R191 to R194, R289, R290); the
other mnemonics modify no operand. -/
def modification : Mnemonic → Option (Byte → Byte → Byte × Byte)
  | .asl => some aslByte
  | .lsr => some lsrByte
  | .rol => some rolByte
  | .ror => some rorByte
  | .inc => some incByte
  | .dec => some decByte
  | _ => none

/-- An instruction that modifies its operand runs the modification of its mnemonic, on A or on a byte of memory (R136). -/
theorem exec_of_modification {i : Instr} {f : Byte → Byte → Byte × Byte} (h : modification i.mnemonic = some f) :
    (i.operand = .accumulator ∧ accessClass i = .accumulator ∧ ∀ s, exec i s = modifyClass .accumulator f s) ∨
    ∃ o, i.operand = .memory o ∧ accessClass i = .readModifyWrite ∧ ∀ s, exec i s = modifyClass (.memory o) f s := by
  cases i with
  | aslAcc | lsrAcc | rolAcc | rorAcc =>
    cases h
    exact .inl ⟨rfl, rfl, fun _ => rfl⟩
  | aslZp | aslZpX | aslAbs | aslAbsX | lsrZp | lsrZpX | lsrAbs | lsrAbsX
  | rolZp | rolZpX | rolAbs | rolAbsX | rorZp | rorZpX | rorAbs | rorAbsX
  | incZp | incZpX | incAbs | incAbsX | decZp | decZpX | decAbs | decAbsX =>
    cases h
    exact .inr ⟨_, rfl, rfl, fun _ => rfl⟩
  | _ => exact nomatch h

/-- A memory operand is not the accumulator. -/
theorem mode_ne_accumulator {i : Instr} {o : MemOperand} (operand : i.operand = .memory o) : i.mode ≠ .accumulator := by
  rw [Instr.mode, operand]
  cases o <;> exact nofun

/-- One bus write, after reads that leave memory and the map, stores one byte where memory takes it (R62). -/
theorem storedAt_of_writeByte {s t : State} {b : Bus} {ea : Addr} {r : Byte} (hbus : t.bus = b.writeByte ea r)
    (hmem : b.mem = s.bus.mem) (hregions : b.regions = s.bus.regions) : StoredAt ea r s t := by
  have hkind : b.kindAt ea = s.bus.kindAt ea := by rw [Bus.kindAt, hregions, Bus.kindAt]
  refine ⟨fun c hc => ?other, ?map, ?same⟩
  case other => rw [State.byteAt, hbus, Bus.read_writeByte_other b r hc, hmem, State.byteAt]
  case map => rw [hbus, Bus.writeByte_regions, hregions]
  case same =>
    rw [State.byteAt, hbus, ← hkind]
    split
    case isTrue hram => exact Bus.read_writeByte_same b r hram
    case isFalse hram => rw [Bus.writeByte_mem_of_not_ram b r hram, hmem, State.byteAt]

/-- In Accumulator mode the operand value is A and the result goes to A (R138, R140, R190). -/
theorem modifies_accumulator {i : Instr} (operand : i.operand = .accumulator) (ofClass : accessClass i = .accumulator)
    (s : State) (r p : Byte) : Modifies i s (((s.setA r).setP p).commit 1 none) s.a r := by
  have hmode : i.mode = .accumulator := by rw [Instr.mode, operand]; rfl
  refine ⟨?value, ⟨rfl, rfl⟩, ⟨rfl, rfl⟩, rfl, ⟨?pc, ?result⟩, fun _ => ⟨rfl, ⟨rfl, rfl⟩, rfl⟩, fun hne => absurd hmode hne⟩
  case value => rw [State.resolveInstr, operand, ofClass]; rfl
  case pc => rw [hmode]; rfl
  case result => rw [hmode]; rfl

/-- In a memory mode the operand value is the byte read at the effective address and the result is written there (R138, R190,
R288). -/
theorem modifies_memory {i : Instr} {o : MemOperand} (operand : i.operand = .memory o)
    (ofClass : accessClass i = .readModifyWrite) (s : State) (r p : Byte) :
    let ea := s.effectiveAddress o
    Modifies i s (((s.setBus ((ea.2.bus.readByte ea.1).2.writeByte ea.1 r)).setP p).commit (modeLength o.mode) none)
      (ea.2.bus.answer ea.1) r := by
  intro ea
  have hmode : i.mode = o.mode := by rw [Instr.mode, operand]; rfl
  have hresolve : s.resolveInstr i =
      ({ ea := some ea.1, value := some (ea.2.bus.answer ea.1) }, s.setBus (ea.2.bus.readByte ea.1).2) := by
    rw [State.resolveInstr, operand, ofClass, resolve_memory_of_reads rfl]
  refine ⟨?value, ⟨rfl, rfl⟩, ⟨rfl, rfl⟩, rfl, ⟨?pc, ?result⟩, fun h => absurd h (mode_ne_accumulator operand),
    fun _ => ⟨ea.1, ?ea, ?bus, ?stored, ⟨rfl, rfl⟩⟩⟩
  case value => rw [hresolve]
  case pc => rw [hmode]; rfl
  case result => rw [hmode]; rfl
  case ea => rw [hresolve]
  case bus => rw [hresolve]; rfl
  case stored =>
    refine storedAt_of_writeByte (b := (ea.2.bus.readByte ea.1).2) rfl ?_ ?_
    · rw [Bus.readByte_mem, State.effectiveAddress_mem]
    · rw [Bus.readByte_regions, State.effectiveAddress_regions]

/-- An instruction that modifies its operand completes, stores its modification's result where the operand came from, and writes
its modification's status to P. -/
theorem completes_of_modification {i : Instr} {f : Byte → Byte → Byte × Byte} (h : modification i.mnemonic = some f)
    (s : State) :
    Completes i s fun t => ∃ m, Modifies i s t m (f m s.status).1 ∧ t.p = filterP (f m s.status).2 := by
  obtain ⟨operand, ofClass, runs⟩ | ⟨o, operand, ofClass, runs⟩ := exec_of_modification h
  · exact ⟨_, by rw [runs, modifyClass_accumulator], s.a, modifies_accumulator operand ofClass s _ _, rfl⟩
  · exact ⟨_, by rw [runs, modifyClass_memory], _, modifies_memory operand ofClass s _ _, rfl⟩

end Sys2Proof.Proofs
end

section
/-!
ASL, LSR, ROL and ROR (spec/43_shift_rotate.md rules R190 to R194): the four results as numbers, and the flags that the four have
in common.
-/

namespace Sys2Proof.Machine

/-! The results as numbers: a shift doubles or halves, a rotate adds the old carry at the vacated bit. -/

theorem shiftLeft_one_toNat (m : Byte) : (m <<< 1).toNat = 2 * m.toNat % 256 := by
  rw [BitVec.toNat_shiftLeft, Nat.shiftLeft_eq, Nat.mul_comm]

theorem shiftRight_one_toNat (m : Byte) : (m >>> 1).toNat = m.toNat / 2 := by
  rw [BitVec.toNat_ushiftRight, Nat.shiftRight_eq_div_pow, pow_one]

/-- Half of a byte has bit 7 clear (R192). -/
theorem msb_of_half {m r : Byte} (hr : r.toNat = m.toNat / 2) : r.msb = false := by
  have hm := m.isLt
  rw [BitVec.msb_eq_decide, hr, decide_eq_false_iff_not]
  omega

/-- A carry put into a bit that is clear is added at that bit's place. -/
theorem or_bit_toNat {v : Byte} {k : Nat} (hclear : v.getLsbD k = false) (c : Bool) :
    (v ||| (if c then BitVec.twoPow 8 k else 0#8)).toNat = (v.toNat + 2 ^ k * c.toNat) % 256 := by
  cases c with
  | false =>
    rw [if_neg Bool.false_ne_true, BitVec.or_zero]
    exact (Nat.mod_eq_of_lt v.isLt).symm
  | true =>
    have hdisjoint : v &&& BitVec.twoPow 8 k = 0#8 := by rw [BitVec.and_twoPow, hclear]; rfl
    rw [if_pos rfl, ← BitVec.add_eq_or_of_and_eq_zero _ _ hdisjoint, BitVec.toNat_add, BitVec.toNat_twoPow, Nat.add_mod_mod,
      Bool.toNat_true, Nat.mul_one]

/-- ROL puts the carry into bit 0, which the shift left clear (R193). -/
theorem rolByte_toNat (m p : Byte) :
    (rolByte m p).1.toNat = (2 * m.toNat + (testFlag p .carry).toNat) % 256 := by
  have hclear : (m <<< 1).getLsbD 0 = false := by simp
  calc (rolByte m p).1.toNat = ((m <<< 1).toNat + 2 ^ 0 * (testFlag p .carry).toNat) % 256 := or_bit_toNat hclear _
    _ = (2 * m.toNat + (testFlag p .carry).toNat) % 256 := by
      rw [shiftLeft_one_toNat, Nat.mod_add_mod, pow_zero, Nat.one_mul]

/-- ROR puts the carry into bit 7, which the shift left clear, and the sum does not wrap (R194). -/
theorem rorByte_toNat (m p : Byte) :
    (rorByte m p).1.toNat = m.toNat / 2 + 128 * (testFlag p .carry).toNat := by
  have hclear : (m >>> 1).getLsbD 7 = false := msb_of_half (shiftRight_one_toNat m)
  have hm := m.isLt
  have hc := (testFlag p .carry).toNat_lt
  calc (rorByte m p).1.toNat = ((m >>> 1).toNat + 2 ^ 7 * (testFlag p .carry).toNat) % 256 := or_bit_toNat hclear _
    _ = m.toNat / 2 + 128 * (testFlag p .carry).toNat := by
      rw [shiftRight_one_toNat]
      omega

end Sys2Proof.Machine

namespace Sys2Proof.Proofs

open Sys2Proof.Machine Sys2Proof.Claims

/-- `P <- withCarry(P, c); P <- setNZ(P, r)`: C takes the bit shifted out, Z and N follow the result, and the other flags stay
(R190). -/
theorem flags_of_shiftP {s t : State} {r : Byte} {c : Bool} (hp : t.p = filterP (shiftP s.status r c)) :
    t.flag .carry = c ∧ NZOf r t ∧ SameFlagsBut [.carry, .zero, .negative] s t := by
  refine ⟨?carry, nzOf_of_p hp, sameFlagsBut_of_p hp ?others⟩
  case carry => simp [State.flag_of_p hp, shiftP]
  case others =>
    intro f hf
    simp only [List.mem_cons, List.not_mem_nil, or_false, not_or] at hf
    simp [hf, shiftP, testFlag_status]

/-- A modification that ends in `shiftP` completes with its result, the bit shifted out in C, and Z and N of the result (R190). -/
theorem completes_of_shift {i : Instr} {s : State} {f : Byte → Byte → Byte × Byte} {result : Byte → Byte → Prop}
    {shiftedOut : Byte → Bool} (h : modification i.mnemonic = some f)
    (status : ∀ m, (f m s.status).2 = shiftP s.status (f m s.status).1 (shiftedOut m))
    (spec : ∀ m, result m (f m s.status).1) :
    Completes i s fun t => ∃ m r : Byte, Modifies i s t m r ∧ result m r ∧ t.flag .carry = shiftedOut m ∧ NZOf r t ∧
      SameFlagsBut [.carry, .zero, .negative] s t := by
  obtain ⟨t, ht, m, hmodifies, hp⟩ := completes_of_modification h s
  exact ⟨t, ht, m, _, hmodifies, spec m, flags_of_shiftP (hp.trans (congrArg filterP (status m)))⟩

/-- Settles O32: ASL doubles M and LSR halves it, which leaves bit 7 clear. -/
theorem shiftsMoveOneBitIntoCarry : Obligations.ShiftsMoveOneBitIntoCarry := by
  intro i s
  refine ⟨fun h => ⟨opcode_mode_mem_opcodeRow i, ?asl⟩, fun h => ⟨opcode_mode_mem_opcodeRow i, ?lsr⟩⟩
  case asl => exact completes_of_shift (f := aslByte) (by rw [h]; rfl) (fun _ => rfl) shiftLeft_one_toNat
  case lsr =>
    obtain ⟨t, ht, m, r, hmodifies, hr, hC, ⟨hZ, hN⟩, hothers⟩ :=
      completes_of_shift (s := s) (f := lsrByte) (result := fun m r => r.toNat = m.toNat / 2)
        (by rw [h]; rfl) (fun _ => rfl) shiftRight_one_toNat
    exact ⟨t, ht, m, r, hmodifies, hr, hC, ⟨hZ, hN⟩, hN.trans (msb_of_half hr), hothers⟩

/-- Settles O33: ROL and ROR add the carry that P held before at the bit their shift leaves clear. -/
theorem rotatesGoThroughCarry : Obligations.RotatesGoThroughCarry := by
  intro i s
  refine ⟨fun h => ⟨opcode_mode_mem_opcodeRow i, ?rol⟩, fun h => ⟨opcode_mode_mem_opcodeRow i, ?ror⟩⟩
  case rol =>
    exact completes_of_shift (f := rolByte) (by rw [h]; rfl) (fun _ => rfl) fun m => rolByte_toNat m s.status
  case ror =>
    exact completes_of_shift (f := rorByte) (by rw [h]; rfl) (fun _ => rfl) fun m => rorByte_toNat m s.status

end Sys2Proof.Proofs
end

section
/-!
CMP, CPX and CPY (spec/44_compare.md rules R200 to R203): the status they write is that of a shift whose result is the difference
and whose bit shifted out says that there is no borrow, and it is all they write.
-/

namespace Sys2Proof.Machine

/-- A comparison writes C, and Z and N of the difference, in the way of R190 (R200). -/
theorem compareP_eq_shiftP (p reg m : Byte) : compareP p reg m = shiftP p (reg - m) (decide (m ≤ reg)) := rfl

end Sys2Proof.Machine

namespace Sys2Proof.Proofs

open Sys2Proof.Machine Sys2Proof.Claims

/-- Where P was last written with the status of a comparison and the registers stand, the state is the comparison's: the
difference is 0 iff the two are equal (R200). -/
theorem compares_of_p {s t : State} {reg m : Byte} (hp : t.p = filterP (compareP s.status reg m))
    (hregisters : SameRegisters s t) : Compares s t reg m := by
  rw [compareP_eq_shiftP] at hp
  obtain ⟨hC, ⟨hZ, hN⟩, hothers⟩ := flags_of_shiftP hp
  refine ⟨hC.trans ?noBorrow, hZ.trans ?equal, hN, hothers, hregisters⟩
  case noBorrow => exact decide_eq_decide.mpr BitVec.le_def
  case equal => exact decide_eq_decide.mpr sub_eq_zero

/-- CMP, CPX and CPY are read-class, and their handlers write the status of the comparison of their register, which the bus does
not change (R201 to R203). -/
theorem readHandler_of_compare {i : Instr} {s : State} {reg : Byte}
    (h : (i.mnemonic, reg) = (.cmp, s.a) ∨ (i.mnemonic, reg) = (.cpx, s.x) ∨ (i.mnemonic, reg) = (.cpy, s.y)) :
    accessClass i = .read ∧ ∃ compared : State → Byte, (∀ bus, compared (s.setBus bus) = reg) ∧
      readHandler i.mnemonic = fun m u => u.setP (compareP u.status (compared u) m) := by
  simp only [Prod.mk.injEq] at h
  rw [accessClass]
  obtain ⟨hm, rfl⟩ | ⟨hm, rfl⟩ | ⟨hm, rfl⟩ := h
  all_goals rw [hm]
  · exact ⟨rfl, State.a, fun _ => rfl, rfl⟩
  · exact ⟨rfl, State.x, fun _ => rfl, rfl⟩
  · exact ⟨rfl, State.y, fun _ => rfl, rfl⟩

/-- Settles O34: each handler writes P alone, with the status of the comparison of its register. -/
theorem comparesSetFlagsAndKeepTheRegister : Obligations.ComparesSetFlagsAndKeepTheRegister := by
  intro i s reg h
  obtain ⟨ofClass, compared, keepsRegister, handler_eq⟩ := readHandler_of_compare h
  refine ⟨opcode_mode_mem_opcodeRow i, completes_of_readHandler ofClass handler_eq (fun _ _ => rfl) (fun _ _ => rfl)
    fun m bus n => compares_of_p ?status ⟨⟨rfl, rfl⟩, ⟨rfl, rfl⟩, ⟨rfl, rfl⟩, rfl⟩⟩
  case status =>
    rw [← keepsRegister bus]
    rfl

end Sys2Proof.Proofs
end

section
/-!
The eight branches (spec/45_branch.md rules R210 and R212 to R219): the commit that ends a branch, with its override and without,
for any condition.
-/

namespace Sys2Proof.Proofs

open Sys2Proof.Machine Sys2Proof.Claims

/-- PC at the end of a branch: the override is the `Relative` target (R151), and without it PC moves past the 2 bytes (R210). -/
theorem commit_branchOverride_pc (s : State) (rel : Byte) (cond : Bool) :
    let t := s.commit 2 (if cond then some (relativeTarget s.pc rel) else none)
    if cond then (t.pc.toNat : Int) = ((s.pc.toNat : Int) + 2 + rel.toInt) % 65536
      else t.pc.toNat = (s.pc.toNat + 2) % 65536 := by
  cases cond with
  | true => exact relativeTarget_toNat s.pc rel
  | false => exact commit_none_pc_toNat s 2

/-- An instruction that runs as `Branch(cond)` branches on `cond`: it ends in a commit of the state as it was, so PC and the
StepResult are all that it writes (R210). -/
theorem branches_of_branchClass {i : Instr} {op rel : Byte} {cond : Bool} {s : State} (hop : i.opcode = op)
    (runs : exec i s = branchClass rel cond s) : Branches i op rel cond s := by
  refine ⟨hop, _, runs.trans (branchClass_eq rel cond s), commit_branchOverride_pc s rel cond, ?result,
    ⟨⟨rfl, rfl⟩, ⟨rfl, rfl⟩, ⟨rfl, rfl⟩, rfl⟩, rfl, rfl⟩
  case result => rw [State.commit_result, isSome_branchOverride]

/-- Settles O35: each of the eight runs as `Branch(cond)` with its own flag, and `Relative` mode resolves to the target with no
access. -/
theorem branchesTestOneFlag : Obligations.BranchesTestOneFlag := by
  intro s rel
  refine ⟨?bcc, ?bcs, ?beq, ?bne, ?bmi, ?bpl, ?bvc, ?bvs, rfl, relativeTarget s.pc rel, rfl, relativeTarget_toNat s.pc rel⟩
  all_goals exact branches_of_branchClass rfl rfl

end Sys2Proof.Proofs
end

section
/-!
Pushes and pulls as the statements count the stack bytes (spec/20_memory.md rules R68, R75 and R76): which byte a push stores and
which bytes it leaves, SP as a number, and the reads of the bus, which leave memory and the map.
-/

namespace Sys2Proof.Proofs

open Sys2Proof.Machine Sys2Proof.Claims

/-- Stack bytes fewer than 256 places apart are different (R75). -/
theorem stackBelow_ne (s : State) {j k : Nat} (hjk : j < k) (hk : k < 256) : stackBelow s j ≠ stackBelow s k := by
  intro h
  have := congrArg BitVec.toNat h
  rw [stackBelow_toNat, stackBelow_toNat] at this
  omega

/-- A push of a word leaves SP two places down (R68). -/
theorem stackBelow_zero_pushWord (s : State) (v : Addr) : stackBelow (s.pushWord v) 0 = stackBelow s 2 := by
  rw [stackBelow_zero, stackBelow_two, State.pushWord_eq, State.setSP_sp]

theorem push_bus (s : State) (v : Byte) : (s.push v).bus = s.bus.writeByte (stackBelow s 0) v := by
  rw [stackBelow_zero]
  rfl

theorem pushWord_bus (s : State) (v : Addr) :
    (s.pushWord v).bus = (s.bus.writeByte (stackBelow s 0) (hiByte v)).writeByte (stackBelow s 1) (loByte v) := by
  rw [stackBelow_zero, stackBelow_one]
  rfl

/-- A push leaves every byte but the one at SP (R75). -/
theorem byteAt_push_other {s : State} (v : Byte) {c : Addr} (hc : c ≠ stackBelow s 0) :
    (s.push v).byteAt c = s.byteAt c := by
  rw [State.byteAt, push_bus, Bus.read_writeByte_other _ v hc, State.byteAt]

/-- A push stores its byte at SP where memory takes it (R75). -/
theorem byteAt_push_same {s : State} (v : Byte) (h : s.bus.kindAt (stackBelow s 0) = .ram) :
    (s.push v).byteAt (stackBelow s 0) = v := by
  rw [State.byteAt, push_bus, Bus.read_writeByte_same _ v h]

/-- A push of a word leaves every byte but the two from SP down (R68). -/
theorem byteAt_pushWord_other {s : State} (v : Addr) {c : Addr} (h0 : c ≠ stackBelow s 0) (h1 : c ≠ stackBelow s 1) :
    (s.pushWord v).byteAt c = s.byteAt c := by
  rw [State.byteAt, pushWord_bus, Bus.read_writeByte_other _ _ h1, Bus.read_writeByte_other _ _ h0, State.byteAt]

/-- The high byte of a pushed word stands at SP where memory takes it, whoever answers below (R68). -/
theorem byteAt_pushWord_high {s : State} (v : Addr) (h : s.bus.kindAt (stackBelow s 0) = .ram) :
    (s.pushWord v).byteAt (stackBelow s 0) = hiByte v := by
  rw [State.byteAt, pushWord_bus, Bus.read_writeByte_other _ _ (stackBelow_zero_ne_one s), Bus.read_writeByte_same _ _ h]

/-- The low byte of a pushed word stands below SP where memory takes it, whoever answers at SP (R68). -/
theorem byteAt_pushWord_low {s : State} (v : Addr) (h : s.bus.kindAt (stackBelow s 1) = .ram) :
    (s.pushWord v).byteAt (stackBelow s 1) = loByte v := by
  rw [State.byteAt, pushWord_bus, Bus.read_writeByte_same _ _ (by rwa [Bus.writeByte_kindAt])]

/-- Reads of the bus leave memory and the map, so a state whose bus has made only reads holds the same bytes (R61). -/
theorem sameMemory_of_bus {s t : State} {b : Bus} (hbus : t.bus = b) (hmem : b.mem = s.bus.mem)
    (hregions : b.regions = s.bus.regions) : SameMemory s t := by
  refine ⟨fun c => ?_, ?_⟩
  · rw [State.byteAt, hbus, hmem, State.byteAt]
  · rw [hbus, hregions]

end Sys2Proof.Proofs
end

section
/-!
The shared entry sequence (spec/60_exceptions.md rule R303), for every vector, return address and kind: the three pushes first,
and then the vector is read and P and PC are written.
-/

namespace Sys2Proof.Machine

@[simp] theorem testFlag_withInterruptDisable (p : Byte) (c : Bool) (g : Flag) :
    testFlag (withInterruptDisable p c) g = if g = .interruptDisable then c else testFlag p g :=
  testFlag_setFlag p .interruptDisable g c

/-- The pushed copy of P for BRK and PHP has both bits of the mask 0x30 set (R47). -/
theorem pushedP_true (p : Byte) : pushedP p true = p ||| 0x30#8 := BitVec.or_assoc p 0x20#8 0x10#8

end Sys2Proof.Machine

namespace Sys2Proof.Proofs

open Sys2Proof.Machine Sys2Proof.Claims

/-- The state after the pushes of an entry: the return address, high byte first, and the status byte (R303). -/
def pushFrame (s : State) (ret : Addr) (status : Byte) : State := (s.pushWord ret).push status

/-- An entry after its pushes: the vector is read, and P and PC are written (R303). -/
theorem enter_eq_pushFrame (s : State) (vec ret : Addr) (brk : Bool) :
    s.enter vec ret brk =
      let u := pushFrame s ret (pushedP s.status brk)
      ((u.setP (withInterruptDisable s.status true)).setBus ((u.bus.readByte vec).2.readByte (vec + 1)).2).setPC
        (word ((u.bus.readByte vec).2.answer (vec + 1)) (u.bus.answer vec)) := by
  simp only [State.enter, State.readWord_fst, State.readWord_snd]
  rfl

theorem pushFrame_log (s : State) (ret : Addr) (status : Byte) :
    (pushFrame s ret status).bus.log = s.bus.log ++
      [.write (stackBelow s 0) (hiByte ret), .write (stackBelow s 1) (loByte ret), .write (stackBelow s 2) status] := by
  rw [pushFrame, push_bus, Bus.writeByte_log, pushWord_bus, Bus.writeByte_log, Bus.writeByte_log, stackBelow_zero_pushWord]
  simp

theorem pushFrame_regions (s : State) (ret : Addr) (status : Byte) :
    (pushFrame s ret status).bus.regions = s.bus.regions := by
  rw [pushFrame, push_bus, Bus.writeByte_regions, pushWord_bus, Bus.writeByte_regions, Bus.writeByte_regions]

theorem pushFrame_kindAt (s : State) (ret : Addr) (status : Byte) (c : Addr) :
    (pushFrame s ret status).bus.kindAt c = s.bus.kindAt c := by
  rw [Bus.kindAt, pushFrame_regions, Bus.kindAt]

/-- The pushes of an entry leave every byte but the three from SP down. -/
theorem byteAt_pushFrame_other {s : State} (ret : Addr) (status : Byte) {c : Addr} (h0 : c ≠ stackBelow s 0)
    (h1 : c ≠ stackBelow s 1) (h2 : c ≠ stackBelow s 2) : (pushFrame s ret status).byteAt c = s.byteAt c := by
  rw [pushFrame, byteAt_push_other _ (by rwa [stackBelow_zero_pushWord]), byteAt_pushWord_other ret h0 h1]

theorem byteAt_pushFrame_high {s : State} (ret : Addr) (status : Byte) (h : s.bus.kindAt (stackBelow s 0) = .ram) :
    (pushFrame s ret status).byteAt (stackBelow s 0) = hiByte ret := by
  have hne : stackBelow s 0 ≠ stackBelow s 2 := stackBelow_ne s (by decide) (by decide)
  rw [pushFrame, byteAt_push_other _ (by rwa [stackBelow_zero_pushWord]), byteAt_pushWord_high ret h]

theorem byteAt_pushFrame_low {s : State} (ret : Addr) (status : Byte) (h : s.bus.kindAt (stackBelow s 1) = .ram) :
    (pushFrame s ret status).byteAt (stackBelow s 1) = loByte ret := by
  have hne : stackBelow s 1 ≠ stackBelow s 2 := stackBelow_ne s (by decide) (by decide)
  rw [pushFrame, byteAt_push_other _ (by rwa [stackBelow_zero_pushWord]), byteAt_pushWord_low ret h]

theorem byteAt_pushFrame_status {s : State} (ret : Addr) (status : Byte) (h : s.bus.kindAt (stackBelow s 2) = .ram) :
    (pushFrame s ret status).byteAt (stackBelow s 2) = status := by
  rw [← stackBelow_zero_pushWord s ret] at h ⊢
  exact byteAt_push_same status (by rwa [kindAt_pushWord])

/-- Reading the vector leaves the bytes that the pushes have made. -/
theorem byteAt_enter (s : State) (vec ret : Addr) (brk : Bool) (c : Addr) :
    (s.enter vec ret brk).byteAt c = (pushFrame s ret (pushedP s.status brk)).byteAt c := by
  rw [enter_eq_pushFrame]
  simp [State.byteAt]

/-- Of the registers, an entry writes SP, P and PC alone (R303). -/
theorem enter_registers (s : State) (vec ret : Addr) (brk : Bool) :
    let t := s.enter vec ret brk
    SameA s t ∧ SameX s t ∧ SameY s t ∧ t.sp = s.sp - 1 - 1 - 1 ∧ t.p = filterP (withInterruptDisable s.status true) := by
  simp [State.enter_eq, SameA, SameX, SameY]

/-- Every entry does what the statements say of one (R303). -/
theorem enter_enters (s : State) (vec ret : Addr) (brk : Bool) :
    Enters s (s.enter vec ret brk) vec ret (pushedP s.status brk) := by
  have hentry := enter_eq_pushFrame s vec ret brk
  have hbytes := byteAt_enter s vec ret brk
  have hkind := pushFrame_kindAt s ret (pushedP s.status brk)
  set u := pushFrame s ret (pushedP s.status brk) with hu
  obtain ⟨hA, hX, hY, hsp, hp⟩ := enter_registers s vec ret brk
  refine ⟨⟨u.bus.answer vec, (u.bus.readByte vec).2.answer (vec + 1), ?log, ?pc, fun h => ?vecLow, fun h => ?vecHigh⟩,
    ?sp, ?masked, sameFlagsBut_of_p hp ?flags, hA, hX, hY, ?map, fun c h0 h1 h2 => ?frame,
    fun h => ?high, fun h => ?low, fun h => ?status⟩
  case log => simp [hentry, hu, pushFrame_log, hiByte, loByte]
  case pc => simp [hentry]
  case vecLow => rw [hbytes, Bus.answer_memory (by rwa [hkind]), State.byteAt]
  case vecHigh =>
    rw [hbytes, Bus.answer_memory (by rwa [Bus.readByte_kindAt, hkind]), Bus.readByte_mem, State.byteAt]
  case sp =>
    rw [hsp]
    bv_omega
  case masked => simp [State.flag_of_p hp]
  case flags =>
    intro f hf
    rw [List.mem_singleton] at hf
    simp [hf, testFlag_status]
  case map => simp [hentry, hu, pushFrame_regions]
  case frame => rw [hbytes, byteAt_pushFrame_other ret _ h0 h1 h2]
  case high => exact (hbytes _).trans (byteAt_pushFrame_high ret _ h)
  case low => exact (hbytes _).trans (byteAt_pushFrame_low ret _ h)
  case status => exact (hbytes _).trans (byteAt_pushFrame_status ret _ h)

/-- A commit that overrides PC with the PC that stands there ends an entry as an entry (R135). -/
theorem enters_commit {s t : State} {vec ret : Addr} {pushed : Byte} (h : Enters s t vec ret pushed) (n : Nat) :
    Enters s (t.commit n (some t.pc)) vec ret pushed := h

/-- Settles O36: BRK is the entry through 0xFFFE with PC + 2 and the pushed copy with B set, and its commit keeps PC. -/
theorem brkEntersThroughTheVector : Obligations.BrkEntersThroughTheVector := by
  intro s
  refine ⟨rfl, rfl, _, rfl, ?_, rfl⟩
  rw [← pushedP_true]
  exact enters_commit (enter_enters s 0xFFFE#16 (s.pc + 2) true) 1

end Sys2Proof.Proofs
end

section
/-!
JSR, RTS, RTI and JMP (spec/46_stack_control.md rules R232 to R235): each ends in a commit with an override, so that the stack
bytes, SP and the override are all there is to say.
-/

namespace Sys2Proof.Proofs

open Sys2Proof.Machine Sys2Proof.Claims

/-- Settles O37: JSR pushes one word and commits with its operand as the override. -/
theorem jsrPushesItsLastAddressAndJumps : Obligations.JsrPushesItsLastAddressAndJumps := by
  intro s addr
  refine ⟨rfl, rfl, _, rfl, ⟨rfl, rfl⟩, ?sp, rfl, ⟨rfl, rfl⟩, ⟨rfl, rfl⟩, ⟨rfl, rfl⟩, pushWord_bus s (s.pc + 2),
    fun c h0 h1 => byteAt_pushWord_other (s.pc + 2) h0 h1, byteAt_pushWord_high (s.pc + 2),
    byteAt_pushWord_low (s.pc + 2)⟩
  case sp =>
    rw [State.commit_sp, State.pushWord_eq, State.setSP_sp]
    bv_omega

/-- Settles O38: RTS pulls one word and commits with the word plus 1 as the override. -/
theorem rtsReturnsPastThePulledAddress : Obligations.RtsReturnsPastThePulledAddress := by
  intro s
  have hbus : s.pullWord.2.bus = ((s.bus.readByte (stackAbove s 1)).2.readByte (stackAbove s 2)).2 := by
    rw [State.pullWord_snd, State.setBus_bus, stackAbove_one, stackAbove_two]
  refine ⟨rfl, _, rfl, ?pc, hbus, ?sp, rfl, rfl, ⟨rfl, rfl⟩, ⟨rfl, rfl⟩, ⟨rfl, rfl⟩,
    sameMemory_of_bus hbus (by simp) (by simp)⟩
  case pc =>
    rw [State.commit_pc, Option.getD_some, State.pullWord_fst, BitVec.toNat_add, word_toNat, stackAbove_one, stackAbove_two]
    rfl
  case sp =>
    rw [State.commit_sp, State.pullWord_snd, State.setBus_sp, State.setSP_sp]
    bv_omega

/-- Of the registers, a return from an exception writes SP, P and PC alone (R234). -/
theorem returnFromInterrupt_registers (s : State) :
    let t := s.returnFromInterrupt
    SameA s t ∧ SameX s t ∧ SameY s t ∧ t.sp = s.sp + 1 + 1 + 1 ∧ t.p = filterP (s.bus.answer (stackAbove s 1)) := by
  simp [State.returnFromInterrupt_eq, SameA, SameX, SameY, stackAbove_one]

/-- The second and third byte that a return from an exception pulls are PC, low byte first, and its accesses are the three
reads (R234). -/
theorem returnFromInterrupt_pc_bus (s : State) :
    let b := (s.bus.readByte (stackAbove s 1)).2
    let c := (b.readByte (stackAbove s 2)).2
    s.returnFromInterrupt.pc = word (c.answer (stackAbove s 3)) (b.answer (stackAbove s 2)) ∧
      s.returnFromInterrupt.bus = (c.readByte (stackAbove s 3)).2 := by
  simp [State.returnFromInterrupt_eq, stackAbove_one, stackAbove_two, stackAbove_three]

/-- Settles O39: RTI is the return from an exception, and its commit keeps the PC that the return has pulled. -/
theorem rtiRestoresStatusAndPc : Obligations.RtiRestoresStatusAndPc := by
  intro s
  obtain ⟨hA, hX, hY, hsp, hp⟩ := returnFromInterrupt_registers s
  obtain ⟨hpc, hbus⟩ := returnFromInterrupt_pc_bus s
  refine ⟨rfl, _, rfl, hp, ?pc, hbus, ?sp, rfl, hA, hX, hY, sameMemory_of_bus hbus (by simp) (by simp)⟩
  case pc => rw [State.commit_pc, Option.getD_some, hpc, word_toNat]
  case sp =>
    rw [State.commit_sp, hsp]
    bv_omega

/-- Settles O40: JMP Absolute commits the state as it was; JMP Indirect reads its pointer first, inside the pointer's page. -/
theorem jmpTakesTheTargetWithThePageWrapBug : Obligations.JmpTakesTheTargetWithThePageWrapBug := by
  intro s addr
  refine ⟨⟨rfl, _, rfl, ?absolute⟩, rfl, _, rfl, nextInPage addr, (s.indirectTarget addr).1, nextInPage_toNat addr, ?target,
    ?reads, ⟨rfl, rfl⟩, ⟨⟨rfl, rfl⟩, ⟨rfl, rfl⟩, ⟨rfl, rfl⟩, rfl⟩, rfl, ?memory⟩
  case absolute => exact ⟨⟨rfl, rfl⟩, ⟨⟨rfl, rfl⟩, ⟨rfl, rfl⟩, ⟨rfl, rfl⟩, rfl⟩, rfl, rfl⟩
  case target => rw [State.indirectTarget, State.readWord_fst, word_toNat]
  case reads => rw [State.commit_bus, State.indirectTarget, State.readWord_snd, State.setBus_bus]
  case memory => exact sameMemory_of_bus (State.commit_bus _ _ _) (by simp [State.indirectTarget]) (by simp [State.indirectTarget])

end Sys2Proof.Proofs
end

section
/-!
PHA, PHP, PLA and PLP (spec/46_stack_control.md rules R236 to R239): one push of any byte, and one pull whose byte goes to A or
to P.
-/

namespace Sys2Proof.Proofs

open Sys2Proof.Machine Sys2Proof.Claims

/-- An implied-class push of a byte, seen past the commit (R75, R236, R237). -/
theorem push_commit (s : State) (v : Byte) (n : Nat) :
    let t := (s.push v).commit n none
    t.bus = s.bus.writeByte (stackBelow s 0) v ∧ StoredAt (stackBelow s 0) v s t ∧
      t.sp.toNat = (s.sp.toNat + 255) % 256 := by
  refine ⟨push_bus s v, storedAt_of_writeByte (push_bus s v) rfl rfl, ?sp⟩
  case sp =>
    rw [State.commit_sp, State.push_eq, State.setSP_sp]
    bv_omega

/-- Settles O41: both are one push, of A and of the pushed copy of P with B set. -/
theorem pushesStoreAAndStatus : Obligations.PushesStoreAAndStatus := by
  intro s
  rw [← pushedP_true]
  refine ⟨⟨rfl, _, rfl, ?pha⟩, rfl, _, rfl, ?php⟩
  case pha =>
    obtain ⟨hbus, hstored, hsp⟩ := push_commit s s.a 1
    exact ⟨hbus, hstored, hsp, ⟨rfl, rfl⟩, rfl, ⟨rfl, rfl⟩, ⟨rfl, rfl⟩, ⟨rfl, rfl⟩⟩
  case php =>
    obtain ⟨hbus, hstored, hsp⟩ := push_commit s (pushedP s.status true) 1
    exact ⟨hbus, hstored, hsp, ⟨rfl, rfl⟩, rfl, ⟨rfl, rfl⟩, ⟨rfl, rfl⟩, ⟨rfl, rfl⟩⟩

/-- A pull as the statements count the stack bytes: SP moves up one and the byte there is read (R76). -/
theorem pull_eq (s : State) :
    s.pull = (s.bus.answer (stackAbove s 1), (s.setSP (s.sp + 1)).setBus (s.bus.readByte (stackAbove s 1)).2) := by
  rw [stackAbove_one, ← State.pull_fst, ← State.pull_snd]

/-- Settles O42: both are one pull, whose byte goes to A with its flags, or to P through the filter. -/
theorem pullsLoadAAndStatus : Obligations.PullsLoadAAndStatus := by
  intro s
  have hsp : (s.sp + 1).toNat = (s.sp.toNat + 1) % 256 := BitVec.toNat_add s.sp 1
  have hmemory {t : State} (hbus : t.bus = (s.bus.readByte (stackAbove s 1)).2) : SameMemory s t :=
    sameMemory_of_bus hbus (Bus.readByte_mem _ _) (Bus.readByte_regions _ _)
  refine ⟨⟨rfl, (putA s.pull.1 s.pull.2).commit 1 none, rfl, ?pla⟩,
    rfl, (s.pull.2.setP s.pull.1).commit 1 none, rfl, ?plp⟩
  all_goals rw [pull_eq]
  case pla =>
    obtain ⟨hA, hNZ, hflags, hX, hY, -⟩ :=
      putA_commit (s.setSP (s.sp + 1)) (s.bus.readByte (stackAbove s 1)).2 (s.bus.answer (stackAbove s 1)) 1
    exact ⟨hA, hNZ, hflags, rfl, hsp, ⟨rfl, rfl⟩, hX, hY, hmemory rfl⟩
  case plp =>
    exact ⟨rfl, rfl, hsp, ⟨rfl, rfl⟩, ⟨rfl, rfl⟩, ⟨rfl, rfl⟩, ⟨rfl, rfl⟩, hmemory rfl⟩

end Sys2Proof.Proofs
end

section
/-!
The register operations (spec/47_register_ops.md rules R250 to R271): what writing X or Y with its flags makes of a state, and
what an implied-class instruction that makes one write of A, X, Y or one flag does as a whole.
-/

namespace Sys2Proof.Proofs

open Sys2Proof.Machine Sys2Proof.Claims

/-- Where P was last written by `setNZ` of P as it read, Z and N follow its byte and no other flag changes (R46). -/
theorem flags_of_setNZ {s t : State} {v : Byte} (hp : t.p = filterP (setNZ s.status v)) :
    NZOf v t ∧ SameFlagsBut [.zero, .negative] s t := by
  refine ⟨nzOf_of_p hp, sameFlagsBut_of_p hp fun f hf => ?_⟩
  simp only [List.mem_cons, List.not_mem_nil, or_false, not_or] at hf
  simp [hf, testFlag_status]

/-- `X <- v; P <- setNZ(P, v)`, seen past the commit, whatever the bus (R251, R282). -/
theorem putX_commit (s : State) (bus : Bus) (v : Byte) (n : Nat) :
    let t := (putX v (s.setBus bus)).commit n none
    WroteX v t ∧ NZOf v t ∧ SameFlagsBut [.zero, .negative] s t ∧ SameA s t ∧ SameY s t ∧ t.sp = s.sp := by
  intro t
  obtain ⟨hNZ, hflags⟩ : NZOf v t ∧ SameFlagsBut [.zero, .negative] s t := flags_of_setNZ rfl
  exact ⟨⟨rfl, rfl⟩, hNZ, hflags, ⟨rfl, rfl⟩, ⟨rfl, rfl⟩, rfl⟩

/-- `Y <- v; P <- setNZ(P, v)`, seen past the commit, whatever the bus (R252, R283). -/
theorem putY_commit (s : State) (bus : Bus) (v : Byte) (n : Nat) :
    let t := (putY v (s.setBus bus)).commit n none
    WroteY v t ∧ NZOf v t ∧ SameFlagsBut [.zero, .negative] s t ∧ SameA s t ∧ SameX s t ∧ t.sp = s.sp := by
  intro t
  obtain ⟨hNZ, hflags⟩ : NZOf v t ∧ SameFlagsBut [.zero, .negative] s t := flags_of_setNZ rfl
  exact ⟨⟨rfl, rfl⟩, hNZ, hflags, ⟨rfl, rfl⟩, ⟨rfl, rfl⟩, rfl⟩

/-- The commit of an implied-mode instruction whose handler leaves PC moves past its one byte (R134, R139). -/
theorem fallsThrough_commit_implied {i : Instr} {s t : State} (implied : i.mode = .implied) (hpc : t.pc = s.pc) :
    FallsThrough i s (t.commit 1 none) := by
  have hlength : modeLength i.mode = 1 := by rw [implied]; rfl
  rw [FallsThrough, hlength, State.commit_pc, hpc]
  exact ⟨rfl, rfl⟩

section ImpliedWrites

variable {i : Instr} {s : State} {v : Byte}

/-- An implied-class instruction that writes A with its flags does nothing else (R266, R267). -/
theorem completes_of_putA (implied : i.mode = .implied) (runs : exec i s = impliedClass (putA v) s) :
    Completes i s fun t => WroteA v t ∧ NZOf v t ∧ SameFlagsBut [.zero, .negative] s t ∧ SameX s t ∧ SameY s t ∧
      t.sp = s.sp ∧ SameBus s t ∧ FallsThrough i s t := by
  obtain ⟨hA, hNZ, hflags, hX, hY, hsp⟩ := putA_commit s s.bus v 1
  exact ⟨_, runs.trans (impliedClass_eq _ s), hA, hNZ, hflags, hX, hY, hsp, rfl, fallsThrough_commit_implied implied rfl⟩

/-- An implied-class instruction that writes X with its flags does nothing else (R251, R253, R264, R268). -/
theorem completes_of_putX (implied : i.mode = .implied) (runs : exec i s = impliedClass (putX v) s) :
    Completes i s fun t => WroteX v t ∧ NZOf v t ∧ SameFlagsBut [.zero, .negative] s t ∧ SameA s t ∧ SameY s t ∧
      t.sp = s.sp ∧ SameBus s t ∧ FallsThrough i s t := by
  obtain ⟨hX, hNZ, hflags, hA, hY, hsp⟩ := putX_commit s s.bus v 1
  exact ⟨_, runs.trans (impliedClass_eq _ s), hX, hNZ, hflags, hA, hY, hsp, rfl, fallsThrough_commit_implied implied rfl⟩

/-- An implied-class instruction that writes Y with its flags does nothing else (R252, R254, R265). -/
theorem completes_of_putY (implied : i.mode = .implied) (runs : exec i s = impliedClass (putY v) s) :
    Completes i s fun t => WroteY v t ∧ NZOf v t ∧ SameFlagsBut [.zero, .negative] s t ∧ SameA s t ∧ SameX s t ∧
      t.sp = s.sp ∧ SameBus s t ∧ FallsThrough i s t := by
  obtain ⟨hY, hNZ, hflags, hA, hX, hsp⟩ := putY_commit s s.bus v 1
  exact ⟨_, runs.trans (impliedClass_eq _ s), hY, hNZ, hflags, hA, hX, hsp, rfl, fallsThrough_commit_implied implied rfl⟩

variable {n : Nat} {frame : State → Prop}

/-- A write of X with its flags, said by the number that X holds after it. -/
theorem countsX_of_wroteX (hv : v.toNat = n) (h : Completes i s fun t => WroteX v t ∧ NZOf v t ∧ frame t) :
    Completes i s fun t => t.x.toNat = n ∧ t.xWritten = true ∧ NZOf t.x t ∧ frame t := by
  obtain ⟨t, runs, ⟨rfl, written⟩, hNZ, hframe⟩ := h
  exact ⟨t, runs, hv, written, hNZ, hframe⟩

/-- A write of Y with its flags, said by the number that Y holds after it. -/
theorem countsY_of_wroteY (hv : v.toNat = n) (h : Completes i s fun t => WroteY v t ∧ NZOf v t ∧ frame t) :
    Completes i s fun t => t.y.toNat = n ∧ t.yWritten = true ∧ NZOf t.y t ∧ frame t := by
  obtain ⟨t, runs, ⟨rfl, written⟩, hNZ, hframe⟩ := h
  exact ⟨t, runs, hv, written, hNZ, hframe⟩

end ImpliedWrites

/-- An implied-class instruction that runs as `setFlag` of one flag with a constant writes that flag and nothing else (R255). -/
theorem writesFlag_of_putFlag {i : Instr} {op : Byte} {f : Flag} {b : Bool} {s : State} (hop : i.opcode = op)
    (runs : exec i s = impliedClass (putFlag f b) s) : WritesFlag i op f b s := by
  have hp : ((putFlag f b s).commit 1 none).p = filterP (setFlag s.status f b) := rfl
  refine ⟨hop, _, runs.trans (impliedClass_eq _ s), ?written, sameFlagsBut_of_p hp ?others,
    ⟨⟨rfl, rfl⟩, ⟨rfl, rfl⟩, ⟨rfl, rfl⟩, rfl⟩, rfl, rfl, rfl⟩
  case written => rw [State.flag_of_p hp, testFlag_setFlag, if_pos rfl]
  case others =>
    intro g hg
    rw [testFlag_setFlag, if_neg (mt List.mem_singleton.mpr hg), testFlag_status]

/-- Settles O50: NOP is the commit alone. -/
theorem nopMovesPcAlone : Obligations.NopMovesPcAlone := fun s => ⟨rfl, impliedClass_eq id s⟩

/-- Settles O48: each of the seven runs as `setFlag` of its flag; R40 and R44 are `setFlag` of C and of I. -/
theorem flagInstructionsWriteOneFlag : Obligations.FlagInstructionsWriteOneFlag := by
  intro s
  refine ⟨?clc, ?sec, ?cli, ?sei, ?cld, ?sed, ?clv⟩
  all_goals exact writesFlag_of_putFlag rfl rfl

/-- Settles O49: five are one write of a register with its flags, and TXS is one write of SP. -/
theorem transfersCopyARegister : Obligations.TransfersCopyARegister := by
  intro s
  refine ⟨⟨rfl, ?tax⟩, ⟨rfl, ?tay⟩, ⟨rfl, ?txa⟩, ⟨rfl, ?tya⟩, ⟨rfl, ?tsx⟩, rfl, ?txs⟩
  case tax => exact completes_of_putX rfl rfl
  case tay => exact completes_of_putY rfl rfl
  case txa => exact completes_of_putA rfl rfl
  case tya => exact completes_of_putA rfl rfl
  case tsx => exact completes_of_putX rfl rfl
  case txs =>
    exact ⟨(s.setSP s.x).commit 1 none, rfl, rfl, rfl, ⟨rfl, rfl⟩, ⟨rfl, rfl⟩, ⟨rfl, rfl⟩, rfl,
      fallsThrough_commit_implied rfl rfl⟩

/-- Settles O47: each is one write of X or Y with its flags; taking 1 modulo 256 is adding 255. -/
theorem incrementsAndDecrementsWrap : Obligations.IncrementsAndDecrementsWrap := by
  intro s
  have add_one (v : Byte) : (v + 1).toNat = (v.toNat + 1) % 256 := BitVec.toNat_add v 1
  have sub_one (v : Byte) : (v - 1).toNat = (v.toNat + 255) % 256 := by bv_omega
  refine ⟨⟨rfl, ?inx⟩, ⟨rfl, ?iny⟩, ⟨rfl, ?dex⟩, rfl, ?dey⟩
  case inx => exact countsX_of_wroteX (add_one s.x) (completes_of_putX rfl rfl)
  case iny => exact countsY_of_wroteY (add_one s.y) (completes_of_putY rfl rfl)
  case dex => exact countsX_of_wroteX (sub_one s.x) (completes_of_putX rfl rfl)
  case dey => exact countsY_of_wroteY (sub_one s.y) (completes_of_putY rfl rfl)

end Sys2Proof.Proofs
end

section
/-!
Decoding and encoding (spec/30_encoding.md rules R100 to R105, R109 and R111): the bytes that a form spells an instruction with are
its encoding, and `decode` reads exactly these bytes. Both directions, the lengths and the unmapped bytes follow.
-/

namespace Sys2Proof

@[simp] theorem loByte_word (hi lo : Byte) : loByte (word hi lo) = lo := by
  apply BitVec.eq_of_toNat_eq
  rw [loByte_toNat, word_toNat]
  omega

@[simp] theorem hiByte_word (hi lo : Byte) : hiByte (word hi lo) = hi := by
  apply BitVec.eq_of_toNat_eq
  rw [hiByte_toNat, word_toNat]
  omega

/-- The operand bytes that an instruction of a form is encoded with, of the bytes that `Form.instr` takes (R102 to R104). -/
def Form.operandBytes (f : Form) (b1 b2 : Byte) : List Byte :=
  match f with
  | .one _ => []
  | .two _ => [b1]
  | .three _ => [loByte (word b2 b1), hiByte (word b2 b1)]

end Sys2Proof

namespace Sys2Proof.Proofs

open Sys2Proof.Machine Sys2Proof.Claims

/-- Row by row of the map, the encoding of an instruction of a form is its opcode byte and the operand bytes of the form. -/
theorem opcodeMap_encode :
    opcodeMap.map (List.map (Option.map fun f b1 b2 => encode (f.instr b1 b2))) =
      opcodeMap.map (List.map (Option.map fun f b1 b2 => (f.instr b1 b2).opcode :: f.operandBytes b1 b2)) := rfl

/-- What an opcode byte selects is encoded with that byte and the operand bytes of its form (R102 to R104, R107). -/
theorem encode_of_decodeOpcode {op : Byte} {f : Form} (h : decodeOpcode op = some f) (b1 b2 : Byte) :
    encode (f.instr b1 b2) = op :: f.operandBytes b1 b2 := by
  have hmap := decodeOpcode_map (fun f b1 b2 => encode (f.instr b1 b2)) op
  rw [opcodeMap_encode, ← decodeOpcode_map, h] at hmap
  have hbytes := congrFun (congrFun (Option.some.inj hmap) b1) b2
  calc encode (f.instr b1 b2) = (f.instr b1 b2).opcode :: f.operandBytes b1 b2 :=
        hbytes
    _ = op :: f.operandBytes b1 b2 := by rw [opcode_of_decodeOpcode h]

/-- A form of three bytes puts the two bytes of a word together again. -/
theorem instr_three (build : Addr → Instr) (w : Addr) : (Form.three build).instr (loByte w) (hiByte w) = build w := by
  rw [Form.instr, word_hiByte_loByte]

/-- Every instruction is what its opcode byte selects, with the operand bytes of its encoding (R107, R108). -/
theorem exists_form (i : Instr) :
    ∃ f, decodeOpcode i.opcode = some f ∧ f.instr ((encode i).getD 1 0) ((encode i).getD 2 0) = i := by
  cases i with
  | adcAbs w | adcAbsX w | adcAbsY w | sbcAbs w | sbcAbsX w | sbcAbsY w | andAbs w | andAbsX w | andAbsY w
  | oraAbs w | oraAbsX w | oraAbsY w | eorAbs w | eorAbsX w | eorAbsY w | bitAbs w
  | aslAbs w | aslAbsX w | lsrAbs w | lsrAbsX w | rolAbs w | rolAbsX w | rorAbs w | rorAbsX w
  | cmpAbs w | cmpAbsX w | cmpAbsY w | cpxAbs w | cpyAbs w | jsr w | jmpAbs w | jmpInd w
  | ldaAbs w | ldaAbsX w | ldaAbsY w | ldxAbs w | ldxAbsY w | ldyAbs w | ldyAbsX w
  | staAbs w | staAbsX w | staAbsY w | stxAbs w | styAbs w | incAbs w | incAbsX w | decAbs w | decAbsX w =>
    simp only [Instr.opcode, encode, List.headD_cons]
    exact ⟨_, rfl, instr_three _ w⟩
  | _ =>
    simp only [Instr.opcode, encode, List.headD_cons]
    exact ⟨_, rfl, rfl⟩

/-- `decode` answers an instruction exactly where the first byte is mapped and the operand bytes of its form follow it (R102 to
R104, R109). -/
theorem decode_eq_ok_iff {bytes rest : List Byte} {i : Instr} :
    decode bytes = .ok (i, rest) ↔
      ∃ op f b1 b2, decodeOpcode op = some f ∧ i = f.instr b1 b2 ∧ bytes = op :: f.operandBytes b1 b2 ++ rest := by
  constructor
  case mpr =>
    rintro ⟨op, f, b1, b2, hf, rfl, rfl⟩
    cases f <;> simp [decode, hf, Form.operandBytes, Form.instr]
  case mp =>
    intro h
    unfold decode at h
    split at h
    · cases h
    next op bytes =>
    split at h
    case h_1 => cases h
    case h_5 => cases h
    case h_2 j rest' hf =>
      cases h
      exact ⟨op, _, 0, 0, hf, rfl, rfl⟩
    case h_3 build b1 rest' hf =>
      cases h
      exact ⟨op, _, b1, 0, hf, rfl, rfl⟩
    case h_4 build b1 b2 rest' hf =>
      cases h
      exact ⟨op, _, b1, b2, hf, rfl, by simp [Form.operandBytes]⟩

/-- The encoding of an instruction is the opcode byte and the operand bytes of its form, which `decode` takes (R109). -/
theorem decode_encode (i : Instr) (rest : List Byte) : decode (encode i ++ rest) = .ok (i, rest) := by
  obtain ⟨f, hf, hi⟩ := exists_form i
  refine decode_eq_ok_iff.mpr ⟨i.opcode, f, _, _, hf, hi.symm, ?_⟩
  rw [← encode_of_decodeOpcode hf, hi]

/-- Settles O1: every instruction decodes from its encoding. -/
theorem decodeOfEncodeIsTheInstruction : Obligations.DecodeOfEncodeIsTheInstruction :=
  fun i rest _ => decode_encode i rest

/-- Settles O2: what `decode` takes is the opcode byte and the operand bytes of its form, which is the encoding. -/
theorem encodeOfDecodeIsTheBytes : Obligations.EncodeOfDecodeIsTheBytes := by
  intro bytes rest i h
  obtain ⟨op, f, b1, b2, hf, rfl, rfl⟩ := decode_eq_ok_iff.mp h
  rw [encode_of_decodeOpcode hf]

/-- Settles O5: the length is that of the mode, and the form has it too. -/
theorem lengthFollowsFromTheMode : Obligations.LengthFollowsFromTheMode := by
  intro i
  refine ⟨fun h => ?one, fun h => ?two, fun h => ?three, ?form⟩
  case one => exact encode_length_of_mode_mem h (by decide)
  case two => exact encode_length_of_mode_mem h (by decide)
  case three => exact encode_length_of_mode_mem h (by decide)
  case form =>
    obtain ⟨f, hf, hi⟩ := exists_form i
    refine ⟨f, hf, ?_⟩
    rw [encode_length, ← modeLength_of_decodeOpcode hf, hi]

/-- Settles O6: each word is read through the map. -/
theorem wordsOfEachFamilyDecode : Obligations.WordsOfEachFamilyDecode := by
  unfold Obligations.WordsOfEachFamilyDecode
  decide

/-- Row by row and column by column of the map, the entries that are missing are those of the listed bytes (R107, R109). -/
theorem isNone_decodeOpcode_eq_contains :
    ∀ hi < 16, ∀ lo < 16, ((opcodeMap.getD hi []).getD lo none).isNone = unmapped.contains (16 * hi + lo) := by
  decide

/-- A byte is unmapped exactly where the spec lists it (R109). -/
theorem decodeOpcode_eq_none_iff (b : Byte) : decodeOpcode b = none ↔ b.toNat ∈ unmapped := by
  have hb := b.isLt
  have hentry := isNone_decodeOpcode_eq_contains (b.toNat / 16) (by omega) (b.toNat % 16) (by omega)
  rw [Nat.div_add_mod] at hentry
  rw [← Option.isNone_iff_eq_none, decodeOpcode, hentry, List.contains_iff_mem]

end Sys2Proof.Proofs
end

section
/-!
The fetch (spec/40_fetch_decode_execute.md rules R130 to R133) in the bytes that the bus answers one after the other from PC on,
on any bus; then where memory answers, and where an instruction has been placed. No mapped byte stops a step (60_exceptions.md
R301).
-/

namespace Sys2Proof

theorem Form.length_le (f : Form) : f.length ≤ 3 := by
  cases f <;> simp [Form.length]

end Sys2Proof

namespace Sys2Proof.Proofs

open Sys2Proof.Machine Sys2Proof.Claims

/-- The opcode byte is the byte the bus answers at PC (R131). -/
theorem byteFetched_zero (s : State) : byteFetched s 0 = s.bus.answer s.pc :=
  congrArg s.bus.answer (BitVec.add_zero s.pc)

theorem clearLog_memRead_pc (s : State) : s.clearLog.memRead s.pc = (byteFetched s 0, s.setBus (busAfter s 1)) := by
  have hpc : s.pc + BitVec.ofNat 16 0 = s.pc := BitVec.add_zero s.pc
  rw [byteFetched_zero, busAfter, busAfter, hpc, State.memRead, Bus.readByte_fst]
  rfl

/-- After the opcode the operand bytes of a form are read one after the other (R133). -/
theorem fetchOperands_eq (s : State) (f : Form) :
    (s.setBus (busAfter s 1)).fetchOperands f =
      (f.instr (byteFetched s 1) (byteFetched s 2), s.setBus (busAfter s f.length)) := by
  cases f with
  | one i => rfl
  | two build => rw [State.fetchOperands, State.memRead, Bus.readByte_fst]; rfl
  | three build =>
    simp only [State.fetchOperands, State.readWord_fst, State.readWord_snd]
    rfl

/-- The fetch of a mapped byte (R131 to R133). -/
theorem fetch_of_mapped {s : State} {f : Form} (h : decodeOpcode (byteFetched s 0) = some f) :
    s.fetch = .ok (f.instr (byteFetched s 1) (byteFetched s 2), s.setBus (busAfter s f.length)) := by
  unfold State.fetch
  simp only [clearLog_memRead_pc, h, fetchOperands_eq]

/-- The fetch of an unmapped byte (R132). -/
theorem fetch_of_unmapped {s : State} (h : decodeOpcode (byteFetched s 0) = none) :
    s.fetch = .error (byteFetched s 0) := by
  unfold State.fetch
  simp only [clearLog_memRead_pc, h]

theorem step_of_fetch {s u : State} {i : Instr} (h : s.fetch = .ok (i, u)) : step s = exec i u := by
  simp only [step, h]

/-- Where every register that the instruction reads has been written, the checked step is the step (R307). -/
theorem checkedStep_of_written {s u : State} {i : Instr} (h : s.fetch = .ok (i, u)) (hreg : u.firstUnwritten i = none) :
    checkedStep s = exec i u := by
  simp only [checkedStep, h, hreg]

/-- Where one has not, the checked step ends with the first (R307). -/
theorem checkedStep_of_unwritten {s u : State} {i : Instr} {r : Reg} (h : s.fetch = .ok (i, u))
    (hreg : u.firstUnwritten i = some r) : checkedStep s = .fault (.unwrittenRegister r) := by
  simp only [checkedStep, h, hreg]

theorem step_of_unmapped {s : State} (h : decodeOpcode (s.bus.answer s.pc) = none) :
    step s = .fault (.unimplementedOpcode (s.bus.answer s.pc)) := by
  rw [← byteFetched_zero] at h ⊢
  simp only [step, fetch_of_unmapped h]

/-- The log of the fetch (R131, R133). -/
theorem busAfter_log (s : State) (n : Nat) :
    (busAfter s n).log = (List.range n).map fun k => .read (s.pc + BitVec.ofNat 16 k) (byteFetched s k) := by
  induction n with
  | zero => rfl
  | succ n ih =>
    rw [busAfter, Bus.readByte_log, ih, List.range_succ, List.map_append]
    rfl

/-- Settles O4: the map misses the listed bytes alone, and a step of such a byte ends after the opcode read. -/
theorem unmappedBytesFault : Obligations.UnmappedBytesFault := by
  refine ⟨rfl, decodeOpcode_eq_none_iff, fun s b hb hmem => ?_⟩
  rw [← hb] at hmem ⊢
  exact step_of_unmapped ((decodeOpcode_eq_none_iff _).mpr hmem)

/-- Settles O8: the fetch in the bytes the bus answers, and the two steps by their fetch. -/
theorem fetchOnAnyBus : Obligations.FetchOnAnyBus := by
  intro s
  refine ⟨byteFetched_zero s, fun h => ?unmapped, fun f hf => ?mapped⟩
  case unmapped =>
    rw [byteFetched_zero] at h ⊢
    exact step_of_unmapped h
  case mapped =>
    have hfetch := fetch_of_mapped hf
    refine ⟨_, _, rfl, rfl, opcode_of_decodeOpcode hf _ _, modeLength_of_decodeOpcode hf _ _, busAfter_log s f.length, hfetch,
      step_of_fetch hfetch, ?checked⟩
    case checked =>
      cases hreg : (s.setBus (busAfter s f.length)).firstUnwritten (f.instr (byteFetched s 1) (byteFetched s 2)) with
      | none => exact checkedStep_of_written hfetch hreg
      | some r => exact checkedStep_of_unwritten hfetch hreg

/-- No instruction stops, in any state (R152). -/
theorem exec_completes (i : Instr) (s : State) : ∃ t, exec i s = .next t :=
  let ⟨_, _, h, _⟩ := exec_eq_commit i s
  ⟨_, h⟩

/-- Settles O10: a mapped byte is fetched, and its instruction completes. -/
theorem onlyUnmappedBytesStopAStep : Obligations.OnlyUnmappedBytesStopAStep := by
  intro s
  refine ⟨fun h => ?_, step_of_unmapped⟩
  rw [← byteFetched_zero] at h
  obtain ⟨f, hf⟩ := Option.ne_none_iff_exists'.mp h
  rw [step_of_fetch (fetch_of_mapped hf)]
  exact exec_completes _ _

/-! Where memory answers, the bytes fetched are those it holds, and the fetch changes the log alone. -/

theorem busAfter_regions (s : State) (n : Nat) : (busAfter s n).regions = s.bus.regions := by
  induction n with
  | zero => rfl
  | succ n ih => rw [busAfter, Bus.readByte_regions, ih]

theorem busAfter_mem (s : State) (n : Nat) : (busAfter s n).mem = s.bus.mem := by
  induction n with
  | zero => rfl
  | succ n ih => rw [busAfter, Bus.readByte_mem, ih]

theorem busAfter_kindAt (s : State) (n : Nat) (c : Addr) : (busAfter s n).kindAt c = s.bus.kindAt c := by
  rw [Bus.kindAt, busAfter_regions, Bus.kindAt]

/-- The platform sees no read that memory answers. -/
theorem busAfter_seen {s : State} {n : Nat} (h : ∀ k < n, s.bus.kindAt (s.pc + BitVec.ofNat 16 k) ≠ .device) :
    (busAfter s n).seen = s.bus.seen := by
  induction n with
  | zero => rfl
  | succ n ih =>
    rw [busAfter, Bus.readByte_seen, busAfter_kindAt, if_neg (h n n.lt_succ_self)]
    exact ih fun k hk => h k (Nat.lt_succ_of_lt hk)

theorem byteFetched_of_memory {s : State} {n : Nat} (h : s.bus.kindAt (s.pc + BitVec.ofNat 16 n) ≠ .device) :
    byteFetched s n = s.byteAt (s.pc + BitVec.ofNat 16 n) := by
  rw [byteFetched, Bus.answer_memory (by rwa [busAfter_kindAt]), busAfter_mem, State.byteAt]

/-- What the fetch reads are the bytes of the instruction (R133, R105). -/
theorem encode_eq_bytesFetched {s : State} {f : Form} (h : decodeOpcode (byteFetched s 0) = some f) :
    encode (f.instr (byteFetched s 1) (byteFetched s 2)) = (List.range f.length).map (byteFetched s) := by
  rw [encode_of_decodeOpcode h]
  cases f <;> simp [Form.operandBytes, Form.length, List.range_succ]

/-- The log of the fetch is the reads of the instruction's own bytes (R131, R133). -/
theorem busAfter_log_eq_fetchLog {s : State} {f : Form} (h : decodeOpcode (byteFetched s 0) = some f) :
    (busAfter s f.length).log = fetchLog s (f.instr (byteFetched s 1) (byteFetched s 2)) := by
  rw [busAfter_log, fetchLog, encode_eq_bytesFetched h]
  cases f <;> rfl

/-- A bus with the memory, the map and the platform's state of another is that other with another log. -/
theorem bus_eq_withLog {b c : Bus} (hmem : b.mem = c.mem) (hregions : b.regions = c.regions) (hseen : b.seen = c.seen) :
    b = { c with log := b.log } := by
  rw [← hmem, ← hregions, ← hseen]

/-- Where memory answers at PC and at the two places after it and holds an instruction there, the fetch gives that instruction, and
its reads change the log alone. -/
theorem fetch_of_memory {s : State} {i : Instr} {rest : List Byte}
    (hkind : ∀ k < 3, s.bus.kindAt (s.pc + BitVec.ofNat 16 k) ≠ .device)
    (hdecode : decode [s.byteAt s.pc, s.byteAt (s.pc + 1), s.byteAt (s.pc + 2)] = .ok (i, rest)) :
    s.fetch = .ok (i, s.setBus { s.bus with log := fetchLog s i }) := by
  have hbyte : ∀ k < 3, byteFetched s k = s.byteAt (s.pc + BitVec.ofNat 16 k) := fun k hk =>
    byteFetched_of_memory (hkind k hk)
  obtain ⟨op, f, b1, b2, hf, rfl, hbytes⟩ := decode_eq_ok_iff.mp hdecode
  have hop : byteFetched s 0 = op := by
    rw [hbyte 0 (by decide)]
    simpa using (List.cons.inj hbytes).1
  have hinstr : f.instr (byteFetched s 1) (byteFetched s 2) = f.instr b1 b2 := by
    rw [hbyte 1 (by decide), hbyte 2 (by decide)]
    cases f <;> simp_all [Form.operandBytes, Form.instr]
  subst hop
  have hbus := bus_eq_withLog (busAfter_mem s f.length) (busAfter_regions s f.length)
    (busAfter_seen fun k hk => hkind k (hk.trans_le f.length_le))
  rw [busAfter_log_eq_fetchLog hf] at hbus
  rw [fetch_of_mapped hf, hbus, hinstr]

/-- Settles O7: the step runs what memory holds at PC. -/
theorem stepRunsTheDecodedInstruction : Obligations.StepRunsTheDecodedInstruction := by
  intro s i rest hmemory hdecode
  refine step_of_fetch (fetch_of_memory (fun k hk => hmemory _ ?_) hdecode)
  interval_cases k <;> simp

/-! A placed byte is answered by memory and is the byte that stands at its place (log entry 10). -/

theorem memoryAt_mem (b : Bus) (a : Addr) : (b.memoryAt a).mem = b.mem := by
  unfold Bus.memoryAt
  split <;> rfl

/-- Where memory answered it still does, and at the place it does now. -/
theorem memoryAt_kindAt {b : Bus} {a c : Addr} (h : c = a ∨ b.kindAt c ≠ .device) : (b.memoryAt a).kindAt c ≠ .device := by
  unfold Bus.memoryAt
  split
  case h_1 hdevice =>
    simp only [Bus.kindAt, kindIn]
    split
    case isTrue => exact nofun
    case isFalse hother =>
      obtain rfl | hc := h
      · simp [Region.holds] at hother
      · exact hc
  all_goals
    obtain rfl | hc := h
    · simp_all
    · exact hc

theorem placeByte_kindAt {s : State} {a c : Addr} (v : Byte) (h : c = a ∨ s.bus.kindAt c ≠ .device) :
    (s.placeByte a v).bus.kindAt c ≠ .device := memoryAt_kindAt h

theorem byteAt_placeByte_same (s : State) (a : Addr) (v : Byte) : (s.placeByte a v).byteAt a = v :=
  Memory.read_write_same _ a v

theorem byteAt_placeByte_other (s : State) {a c : Addr} (v : Byte) (h : c ≠ a) : (s.placeByte a v).byteAt c = s.byteAt c := by
  rw [State.byteAt, State.byteAt, ← memoryAt_mem s.bus a]
  exact Memory.read_write_other _ v h

/-- Three bytes placed where the step fetches. -/
def placeBytes (s : State) (v0 v1 v2 : Byte) : State :=
  ((s.placeByte s.pc v0).placeByte (s.pc + 1) v1).placeByte (s.pc + 2) v2

theorem placeBytes_pc (s : State) (v0 v1 v2 : Byte) : (placeBytes s v0 v1 v2).pc = s.pc := rfl

/-- Three placed bytes are answered by memory and stand at their places. -/
theorem placeBytes_bytes (s : State) (v0 v1 v2 : Byte) :
    (∀ k < 3, (placeBytes s v0 v1 v2).bus.kindAt (s.pc + BitVec.ofNat 16 k) ≠ .device) ∧
      (placeBytes s v0 v1 v2).byteAt s.pc = v0 ∧ (placeBytes s v0 v1 v2).byteAt (s.pc + 1) = v1 ∧
      (placeBytes s v0 v1 v2).byteAt (s.pc + 2) = v2 := by
  have h01 : s.pc ≠ s.pc + 1 := by bv_omega
  have h02 : s.pc ≠ s.pc + 2 := by bv_omega
  have h12 : s.pc + 1 ≠ s.pc + 2 := by bv_omega
  refine ⟨fun k hk => ?kind, ?low, ?mid, byteAt_placeByte_same _ _ _⟩
  case kind =>
    interval_cases k
    · exact placeByte_kindAt _ (.inr (placeByte_kindAt _ (.inr (placeByte_kindAt _ (.inl (BitVec.add_zero s.pc))))))
    · exact placeByte_kindAt _ (.inr (placeByte_kindAt _ (.inl rfl)))
    · exact placeByte_kindAt _ (.inl rfl)
  case low => rw [placeBytes, byteAt_placeByte_other _ _ h02, byteAt_placeByte_other _ _ h01, byteAt_placeByte_same]
  case mid => rw [placeBytes, byteAt_placeByte_other _ _ h12, byteAt_placeByte_same]

/-- The three bytes of a word of at most 24 bits, byte 0 in bits 7 to 0. -/
theorem bytes_of_word (b0 b1 b2 : Byte) :
    let w := b0.toNat + 256 * b1.toNat + 65536 * b2.toNat
    BitVec.ofNat 8 w = b0 ∧ BitVec.ofNat 8 (w / 2 ^ 8) = b1 ∧ BitVec.ofNat 8 (w / 2 ^ 16) = b2 := by
  have h0 := b0.isLt
  have h1 := b1.isLt
  have h2 := b2.isLt
  refine ⟨?_, ?_, ?_⟩ <;>
  · apply BitVec.eq_of_toNat_eq
    rw [BitVec.toNat_ofNat]
    omega

/-- At most three bytes, filled up to three with zeros, are these bytes and the zeros, and the word they make has no bit beyond the
bytes. -/
theorem filled_bytes {bytes : List Byte} (h : bytes.length ≤ 3) :
    (∃ rest, [bytes.getD 0 0, bytes.getD 1 0, bytes.getD 2 0] = bytes ++ rest) ∧
      (bytes.getD 0 0).toNat + 256 * (bytes.getD 1 0).toNat + 65536 * (bytes.getD 2 0).toNat < 2 ^ (8 * bytes.length) := by
  match bytes, h with
  | [], _ => exact ⟨⟨[0, 0, 0], rfl⟩, by decide⟩
  | [b0], _ =>
    have h0 := b0.isLt
    exact ⟨⟨[0, 0], rfl⟩, by simpa using h0⟩
  | [b0, b1], _ =>
    have h0 := b0.isLt
    have h1 := b1.isLt
    refine ⟨⟨[0], rfl⟩, ?_⟩
    simp
    omega
  | [b0, b1, b2], _ =>
    have h0 := b0.isLt
    have h1 := b1.isLt
    have h2 := b2.isLt
    refine ⟨⟨[], rfl⟩, ?_⟩
    simp
    omega

/-- Placing the word of at most three bytes places the bytes, and zeros after them (log entry 10). -/
theorem withFetchWord_eq_placeBytes (s : State) {bytes : List Byte} (h : bytes.length ≤ 3) :
    s.withFetchWord (8 * bytes.length)
        ((bytes.getD 0 0).toNat + 256 * (bytes.getD 1 0).toNat + 65536 * (bytes.getD 2 0).toNat) =
      placeBytes s (bytes.getD 0 0) (bytes.getD 1 0) (bytes.getD 2 0) := by
  obtain ⟨hb0, hb1, hb2⟩ := bytes_of_word (bytes.getD 0 0) (bytes.getD 1 0) (bytes.getD 2 0)
  rw [State.withFetchWord, Nat.mod_eq_of_lt (filled_bytes h).2, hb0, hb1, hb2, placeBytes]

/-- Where an instruction decodes from three placed bytes, the fetch gives it, and the registers stand. -/
theorem fetch_placeBytes {s : State} {v0 v1 v2 : Byte} {i : Instr} {rest : List Byte}
    (h : decode [v0, v1, v2] = .ok (i, rest)) :
    ∃ u, (placeBytes s v0 v1 v2).fetch = .ok (i, u) ∧ u = s.setBus u.bus := by
  obtain ⟨hkind, hb0, hb1, hb2⟩ := placeBytes_bytes s v0 v1 v2
  refine ⟨_, fetch_of_memory (s := placeBytes s v0 v1 v2) (rest := rest) hkind ?_, rfl⟩
  rw [placeBytes_pc, hb0, hb1, hb2, h]

/-- Settles O9: the placed bytes are the encoding and zeros, which decode to the instruction. -/
theorem placedInstructionIsRun : Obligations.PlacedInstructionIsRun := by
  intro s i
  have hlength : (encode i).length ≤ 3 := by
    rw [encode_length]
    cases i.mode <;> decide
  obtain ⟨rest, hbytes⟩ := (filled_bytes hlength).1
  rw [withFetchWord_eq_placeBytes s hlength]
  obtain ⟨u, hfetch, hu⟩ := fetch_placeBytes (s := s) (hbytes ▸ decode_encode i rest)
  exact ⟨u, hfetch, hu, step_of_fetch hfetch⟩

end Sys2Proof.Proofs
end

section
/-!
The loads, the stores, INC and DEC (spec/48_load_store_memory.md rules R280 to R290): a load is a write of its register with its
flags, a store one write at the effective address, and INC and DEC modify a byte of memory.
-/

namespace Sys2Proof.Proofs

open Sys2Proof.Machine Sys2Proof.Claims

/-- Settles O51: each load is read-class, and its handler writes its register with its flags. -/
theorem loadsWriteTheRegister : Obligations.LoadsWriteTheRegister := by
  intro i s h
  refine ⟨opcode_mode_mem_opcodeRow i, ?_⟩
  simp only [List.mem_cons, List.not_mem_nil, or_false] at h
  obtain hm | hm | hm := h
  case inl =>
    refine completes_of_readHandler (handler := putA) (by rw [accessClass, hm]) (by rw [hm]; rfl) (fun _ _ => rfl)
      (fun _ _ => rfl) fun m bus n => ?_
    obtain ⟨hA, hNZ, hflags, hX, hY, hsp⟩ := putA_commit s bus m n
    exact ⟨hNZ, hflags, hsp, fun _ => ⟨hA, hX, hY⟩, fun h => (nomatch hm.symm.trans h), fun h => (nomatch hm.symm.trans h)⟩
  case inr.inl =>
    refine completes_of_readHandler (handler := putX) (by rw [accessClass, hm]) (by rw [hm]; rfl) (fun _ _ => rfl)
      (fun _ _ => rfl) fun m bus n => ?_
    obtain ⟨hX, hNZ, hflags, hA, hY, hsp⟩ := putX_commit s bus m n
    exact ⟨hNZ, hflags, hsp, fun h => (nomatch hm.symm.trans h), fun _ => ⟨hX, hA, hY⟩, fun h => (nomatch hm.symm.trans h)⟩
  case inr.inr =>
    refine completes_of_readHandler (handler := putY) (by rw [accessClass, hm]) (by rw [hm]; rfl) (fun _ _ => rfl)
      (fun _ _ => rfl) fun m bus n => ?_
    obtain ⟨hY, hNZ, hflags, hA, hX, hsp⟩ := putY_commit s bus m n
    exact ⟨hNZ, hflags, hsp, fun h => (nomatch hm.symm.trans h), fun h => (nomatch hm.symm.trans h), fun _ => ⟨hY, hA, hX⟩⟩

/-- The register that a store writes to memory (R285 to R287); the other mnemonics store none. -/
def storedRegister : Mnemonic → Option (State → Byte)
  | .sta => some State.a
  | .stx => some State.x
  | .sty => some State.y
  | _ => none

/-- A store runs as the write class with its register, in all its modes (R136, R284). -/
theorem exec_of_store {i : Instr} {reg : State → Byte} (h : storedRegister i.mnemonic = some reg) :
    ∃ o, i.operand = .memory o ∧ accessClass i = .write ∧ ∀ s, exec i s = writeClass o (reg s) s := by
  cases i with
  | staZp | staZpX | staAbs | staAbsX | staAbsY | staIndX | staIndY | stxZp | stxZpY | stxAbs | styZp | styZpX | styAbs =>
    cases h
    exact ⟨_, rfl, rfl, fun _ => rfl⟩
  | _ => exact nomatch h

/-- A write-class instruction writes the bus and commits (R79, R284). -/
theorem writeClass_setBus (o : MemOperand) (v : Byte) (s : State) :
    writeClass o v s =
      .next ((s.setBus ((s.effectiveAddress o).2.bus.writeByte (s.effectiveAddress o).1 v)).commit (modeLength o.mode) none) := by
  rw [writeClass_eq, State.memWrite_eq, effectiveAddress_setBus]

/-- Settles O52: a store is one write at the effective address after the pointer reads. -/
theorem storesWriteOneByteAndReadNone : Obligations.StoresWriteOneByteAndReadNone := by
  intro i s v h
  refine ⟨opcode_mode_mem_opcodeRow i, ?_⟩
  obtain ⟨reg, hreg, rfl⟩ : ∃ reg, storedRegister i.mnemonic = some reg ∧ reg s = v := by
    simp only [Prod.mk.injEq] at h
    obtain ⟨hm, rfl⟩ | ⟨hm, rfl⟩ | ⟨hm, rfl⟩ := h
    all_goals
      rw [hm]
      exact ⟨_, rfl, rfl⟩
  obtain ⟨o, operand, ofClass, runs⟩ := exec_of_store hreg
  have hmode : i.mode = o.mode := by rw [Instr.mode, operand]; rfl
  have hresolve : s.resolveInstr i = ({ ea := some (s.effectiveAddress o).1, value := none }, (s.effectiveAddress o).2) := by
    rw [State.resolveInstr, operand, ofClass]
    rfl
  refine ⟨_, (runs s).trans (writeClass_setBus o (reg s) s), (s.effectiveAddress o).1, by rw [hresolve], by rw [hresolve]; rfl,
    ?stored,
    ⟨⟨rfl, rfl⟩, ⟨rfl, rfl⟩, ⟨rfl, rfl⟩, rfl⟩, rfl, ?falls⟩
  case stored =>
    exact storedAt_of_writeByte (b := (s.effectiveAddress o).2.bus) rfl (State.effectiveAddress_mem s o)
      (State.effectiveAddress_regions s o)
  case falls =>
    rw [FallsThrough, hmode]
    exact ⟨rfl, rfl⟩

/-- Accumulator mode is that of the four shifts and rotates (R108). -/
theorem mnemonic_of_accumulator {i : Instr} (hmode : i.mode = .accumulator) : i.mnemonic ∈ [.asl, .lsr, .rol, .ror] :=
  mnemonic_mem_of_mode hmode fun m => by cases m <;> decide

/-- A modification whose status is `setNZ` of its result, of a mnemonic without Accumulator mode, keeps A and every flag but Z and N
(R289, R290). -/
theorem completes_of_count {i : Instr} {f : Byte → Byte → Byte × Byte} (s : State) (h : modification i.mnemonic = some f)
    (noAccumulator : i.mnemonic ∉ [.asl, .lsr, .rol, .ror]) (status : ∀ m p, (f m p).2 = setNZ p (f m p).1)
    {count : Byte → Nat} (spec : ∀ m p, (f m p).1.toNat = count m) :
    Completes i s fun t => ∃ m r : Byte, Modifies i s t m r ∧ SameA s t ∧ r.toNat = count m ∧ NZOf r t ∧
      SameFlagsBut [.zero, .negative] s t := by
  obtain ⟨t, ht, m, hmodifies, hp⟩ := completes_of_modification h s
  obtain ⟨-, -, -, -, -, -, hmemory⟩ := id hmodifies
  obtain ⟨-, -, -, -, hA⟩ := hmemory (mt mnemonic_of_accumulator noAccumulator)
  rw [status] at hp
  exact ⟨t, ht, m, _, hmodifies, hA, spec m _, flags_of_setNZ hp⟩

/-- Settles O53: INC and DEC modify a byte of memory by one; taking 1 modulo 256 is adding 255. -/
theorem incAndDecModifyMemory : Obligations.IncAndDecModifyMemory := by
  intro i s
  refine ⟨fun h => ⟨opcode_mode_mem_opcodeRow i, ?inc⟩, fun h => ⟨opcode_mode_mem_opcodeRow i, ?dec⟩⟩
  case inc =>
    exact completes_of_count s (f := incByte) (by rw [h]; rfl) (by rw [h]; decide) (fun _ _ => rfl)
      fun m _ => BitVec.toNat_add m 1
  case dec =>
    have sub_one (m : Byte) : (m - 1).toNat = (m.toNat + 255) % 256 := by bv_omega
    exact completes_of_count s (f := decByte) (by rw [h]; rfl) (by rw [h]; decide) (fun _ _ => rfl) fun m _ => sub_one m

end Sys2Proof.Proofs
end

section
/-!
Reset, interrupts and the returns from them (spec/60_exceptions.md rules R303, R310 to R312, 70_reset_and_hazards.md R330 and R331,
46_stack_control.md R232 to R234): a return reads the stack bytes that an entry has written, wherever memory took them.
-/

namespace Sys2Proof.Proofs

open Sys2Proof.Machine Sys2Proof.Claims

/-! Reset. -/

/-- Settles O18: reset reads one word and writes every register. -/
theorem resetReadsTheVectorAndSetsTheRegisters : Obligations.ResetReadsTheVectorAndSetsTheRegisters := by
  intro s
  have hbus : s.hostReset.bus = ((s.clearLog.bus.readByte resetVector).2.readByte (resetVector + 1)).2 :=
    congrArg State.bus (State.readWord_snd s.clearLog resetVector (resetVector + 1))
  have hpc : s.hostReset.pc =
      word ((s.clearLog.bus.readByte resetVector).2.answer (resetVector + 1)) (s.bus.answer resetVector) :=
    State.readWord_fst s.clearLog resetVector (resetVector + 1)
  refine ⟨s.bus.answer resetVector, (s.clearLog.bus.readByte resetVector).2.answer (resetVector + 1), ?log, ?pc,
    Bus.answer_memory, fun h => ?high, rfl, rfl, rfl, rfl, rfl, rfl, ?memory⟩
  case log =>
    rw [hbus, Bus.readByte_log, Bus.readByte_log]
    rfl
  case pc => rw [hpc, word_toNat]
  case high =>
    rw [Bus.answer_memory (by rw [Bus.readByte_kindAt]; exact h), Bus.readByte_mem]
    rfl
  case memory => exact sameMemory_of_bus hbus (by simp [State.clearLog]) (by simp [State.clearLog])

/-- Settles O19: the empty bus answers the vector with 0x00 twice. -/
theorem resetStateOfTheModel : Obligations.ResetStateOfTheModel :=
  ⟨rfl, rfl, rfl, rfl, rfl, rfl, rfl, fun _ => rfl⟩

/-- Settles O20: no memory is listed, and P is 0x24. -/
theorem invariantHoldsAtReset : Obligations.InvariantHoldsAtReset := ⟨rfl, rfl, rfl⟩

/-! Interrupts. -/

/-- A masked IRQ is not taken (R310). -/
theorem irq_of_masked {s : State} (h : s.flag .interruptDisable = true) : s.irq = (s, false) := if_pos h

/-- An unmasked IRQ is an entry (R310). -/
theorem irq_of_unmasked {s : State} (h : s.flag .interruptDisable = false) :
    s.irq = ({ s.clearLog.enter irqVector s.pc false with result := none }, true) :=
  if_neg (Bool.eq_false_iff.mp h)

/-- An IRQ is taken exactly while I is 0 (R310). -/
theorem irq_taken_iff (s : State) : s.irq.2 = true ↔ s.flag .interruptDisable = false := by
  cases h : s.flag .interruptDisable with
  | false => simp [irq_of_unmasked h]
  | true => simp [irq_of_masked h]

/-- The copy that IRQ and NMI push is P as it reads (R47). -/
theorem pushedP_status_false (s : State) : pushedP s.status false = s.status := by
  apply BitVec.eq_of_getLsbD_eq
  intro j _
  rw [pushedP_getLsbD (p := s.status) (filterP_bit4 s.p)]
  split
  case isTrue hj => rw [hj]; exact (filterP_bit5 s.p).symm
  case isFalse =>
    split
    case isTrue hj => rw [hj]; exact (filterP_bit4 s.p).symm
    case isFalse => rfl

/-- What IRQ and NMI do is an entry with PC and P as they stand, after which no StepResult is there (R310, R311). -/
theorem interrupt_enters (s : State) (vec : Addr) :
    Enters s.clearLog { s.clearLog.enter vec s.pc false with result := none } vec s.pc s.status := by
  have h := enter_enters s.clearLog vec s.pc false
  rwa [pushedP_status_false] at h

/-- Settles O55: the three are the one entry by their definitions. -/
theorem sharedEntrySequence : Obligations.SharedEntrySequence :=
  ⟨enter_enters, fun _ => ⟨⟨_, rfl, rfl, rfl, rfl, rfl⟩, fun h => congrArg Prod.fst (irq_of_unmasked h), rfl⟩⟩

/-- Settles O56: an IRQ by the mask, an NMI whatever it is. -/
theorem irqIsMaskedByIAndNmiIsNot : Obligations.IrqIsMaskedByIAndNmiIsNot := by
  intro s
  refine ⟨irq_of_masked, fun h => ?taken, rfl, interrupt_enters s nmiVector⟩
  rw [irq_of_unmasked h]
  exact ⟨rfl, rfl, interrupt_enters s irqVector⟩

/-! Returns: the stack bytes above SP after a push are those from the old SP down. -/

/-- What two steps in a row keep of A, X and Y. -/
theorem sameAXY_trans {s t u : State} (h : SameA s t ∧ SameX s t ∧ SameY s t) (h' : SameA t u ∧ SameX t u ∧ SameY t u) :
    SameA s u ∧ SameX s u ∧ SameY s u := by
  obtain ⟨⟨ha, haw⟩, ⟨hx, hxw⟩, hy, hyw⟩ := h
  obtain ⟨⟨ha', haw'⟩, ⟨hx', hxw'⟩, hy', hyw'⟩ := h'
  exact ⟨⟨ha'.trans ha, haw'.trans haw⟩, ⟨hx'.trans hx, hxw'.trans hxw⟩, hy'.trans hy, hyw'.trans hyw⟩

/-- Where the map stands and memory took writes, memory answers. -/
theorem kindAt_ne_device {s t : State} {c : Addr} (hregions : t.bus.regions = s.bus.regions) (hc : s.bus.kindAt c = .ram) :
    t.bus.kindAt c ≠ .device := by
  rw [Bus.kindAt, hregions, ← Bus.kindAt, hc]
  exact nofun

/-- Where SP has moved up `m` places modulo 256, the byte `j` above it is the byte `k` below the old SP if the three fill the page. -/
theorem stackAbove_eq_stackBelow {s t : State} {m j k : Nat} (hsp : t.sp.toNat = (s.sp.toNat + m) % 256)
    (hk : m + j + k = 256) : stackAbove t j = stackBelow s k := by
  apply BitVec.eq_of_toNat_eq
  rw [stackAbove_toNat, stackBelow_toNat, hsp]
  omega

/-- Settles O45: RTS pulls the word that JSR pushed, the address of JSR's last byte, and adds 1. -/
theorem rtsAfterJsrGoesToTheNextInstruction : Obligations.RtsAfterJsrGoesToTheNextInstruction := by
  intro s addr h0 h1
  obtain ⟨-, -, t, ht, -, hsp, hp, hA, hX, hY, hbus, -, hhigh, hlow⟩ := jsrPushesItsLastAddressAndJumps s addr
  obtain ⟨-, u, hu, hpc, -, hsp', -, hp', hA', hX', hY', -⟩ := rtsReturnsPastThePulledAddress t
  have hregions : t.bus.regions = s.bus.regions := by rw [hbus, Bus.writeByte_regions, Bus.writeByte_regions]
  have ha1 : stackAbove t 1 = stackBelow s 1 := stackAbove_eq_stackBelow hsp rfl
  have ha2 : stackAbove t 2 = stackBelow s 0 := stackAbove_eq_stackBelow hsp rfl
  obtain ⟨hkeepA, hkeepX, hkeepY⟩ := sameAXY_trans ⟨hA, hX, hY⟩ ⟨hA', hX', hY'⟩
  refine ⟨t, u, ht, hu, ?pc, ⟨hkeepA, hkeepX, hkeepY, ?sp⟩, hp'.trans hp⟩
  case pc =>
    rw [ha1, ha2, Bus.answer_memory (by simpa using kindAt_ne_device hregions h0),
      Bus.answer_memory (kindAt_ne_device hregions h1), Bus.readByte_mem, ← State.byteAt, ← State.byteAt, hhigh h0, hlow h1,
      ← word_toNat] at hpc
    have hword : word (hiByte (s.pc + 2)) (loByte (s.pc + 2)) = s.pc + 2 := word_hiByte_loByte _
    rw [hpc, ← hiByte, ← loByte, hword, BitVec.toNat_add, Nat.mod_add_mod]
    rfl
  case sp =>
    apply BitVec.eq_of_toNat_eq
    omega

/-- An RTI after an entry, where memory took the three bytes, restores PC, the registers and the P that was pushed (R312). -/
theorem rti_after_entry {s t : State} {vec ret : Addr} {pushed : Byte} (h : Enters s t vec ret pushed)
    (h0 : s.bus.kindAt (stackBelow s 0) = .ram) (h1 : s.bus.kindAt (stackBelow s 1) = .ram)
    (h2 : s.bus.kindAt (stackBelow s 2) = .ram) :
    ∃ u, exec .rti t = .next u ∧ u.pc = ret ∧ u.status = filterP pushed ∧ SameRegisters s u := by
  obtain ⟨-, hsp, -, -, hA, hX, hY, hregions, -, hhigh, hlow, hstatus⟩ := h
  obtain ⟨-, u, hu, hp, hpc, -, hsp', -, hA', hX', hY', -⟩ := rtiRestoresStatusAndPc t
  have ha1 : stackAbove t 1 = stackBelow s 2 := stackAbove_eq_stackBelow hsp rfl
  have ha2 : stackAbove t 2 = stackBelow s 1 := stackAbove_eq_stackBelow hsp rfl
  have ha3 : stackAbove t 3 = stackBelow s 0 := stackAbove_eq_stackBelow hsp rfl
  have hmemory {c : Addr} : s.bus.kindAt c = .ram → t.bus.kindAt c ≠ .device := kindAt_ne_device hregions
  simp only [ha1, ha2, ha3] at hp hpc
  rw [Bus.answer_memory (hmemory h2)] at hp
  rw [Bus.answer_memory (by simpa using hmemory h0), Bus.answer_memory (by simpa using hmemory h1), Bus.readByte_mem,
    Bus.readByte_mem] at hpc
  obtain ⟨hkeepA, hkeepX, hkeepY⟩ := sameAXY_trans ⟨hA, hX, hY⟩ ⟨hA', hX', hY'⟩
  refine ⟨u, hu, ?pc, ?status, ⟨hkeepA, hkeepX, hkeepY, ?sp⟩⟩
  case pc =>
    apply BitVec.eq_of_toNat_eq
    rw [hpc, ← State.byteAt, ← State.byteAt, hhigh h0, hlow h1, ← word_toNat]
    exact congrArg BitVec.toNat (word_hiByte_loByte ret)
  case status => rw [State.status, hp, ← State.byteAt, hstatus h2, ← filterP, filterP_filterP]
  case sp =>
    apply BitVec.eq_of_toNat_eq
    omega

/-- The filter makes of a pushed copy what it makes of P (R27, R47). -/
theorem filterP_pushedP (p : Byte) (brk : Bool) : filterP (pushedP p brk) = filterP p := by
  apply BitVec.eq_of_getLsbD_eq
  intro j hj
  cases brk <;> interval_cases j <;> simp [filterP, pushedP]

/-- Settles O46: RTI after the entry with PC + 2. -/
theorem rtiAfterBrkRestoresStatusAndSkipsAByte : Obligations.RtiAfterBrkRestoresStatusAndSkipsAByte := by
  intro s h0 h1 h2
  obtain ⟨-, -, t, ht, henters, -⟩ := brkEntersThroughTheVector s
  obtain ⟨u, hu, hpc, hstatus, hregisters⟩ := rti_after_entry henters h0 h1 h2
  refine ⟨t, u, ht, hu, ?pc, hregisters, ?status⟩
  case pc =>
    rw [hpc]
    exact BitVec.toNat_add s.pc 2
  case status =>
    rw [hstatus, ← pushedP_true, filterP_pushedP]
    exact filterP_filterP s.p

/-- Settles O57: RTI after an entry with PC and P as they stood; I is set in between. -/
theorem rtiAfterInterruptResumesTheProgram : Obligations.RtiAfterInterruptResumesTheProgram := by
  intro s h0 h1 h2 t ht
  obtain ⟨vec, henters⟩ : ∃ vec, Enters s.clearLog t vec s.pc s.status := by
    obtain ⟨-, hirq, -, hnmi⟩ := irqIsMaskedByIAndNmiIsNot s
    obtain rfl | ⟨hI, rfl⟩ := ht
    · exact ⟨_, hnmi⟩
    · obtain ⟨-, -, henters⟩ := hirq hI
      exact ⟨_, henters⟩
  obtain ⟨u, hu, hpc, hstatus, hregisters⟩ := rti_after_entry henters h0 h1 h2
  obtain ⟨-, -, hmasked, -⟩ := henters
  have hrestored : u.status = s.status := hstatus.trans (filterP_filterP s.p)
  refine ⟨by rw [irq_of_masked hmasked], u, hu, hpc, hrestored, hregisters, ?_⟩
  rw [irq_taken_iff, State.flag, hrestored, State.flag]

end Sys2Proof.Proofs
end

section
/-!
The bus by kind (spec/20_memory.md rules R60 to R62), the ends of a run (70_reset_and_hazards.md R346), and the check for unwritten
registers (60_exceptions.md R307).
-/

namespace Sys2Proof.Proofs

open Sys2Proof.Machine Sys2Proof.Claims

/-- Settles O54: each kind by what a read and a write do there, and the platform as one of R60's form. -/
theorem busReadsAndWritesByKind : Obligations.BusReadsAndWritesByKind := by
  refine ⟨fun b c d v => ⟨fun hram => ?ram, fun hrom => ?rom, fun hmemory => ?seen, fun hdevice => ?device,
    fun hd => Bus.read_writeByte_other b v hd, Bus.readByte_fst b c, Bus.readByte_mem b c, Bus.readByte_log b c,
    Bus.writeByte_log b c v, Bus.readByte_regions b c, Bus.writeByte_regions b c v⟩,
    fun B read write view h b c v hdevice => ?platform⟩
  case ram =>
    have hkind : (b.writeByte c v).kindAt c ≠ .device := by rw [Bus.writeByte_kindAt, hram]; exact nofun
    exact ⟨(Bus.answer_memory hkind).trans (Bus.read_writeByte_same b v hram), by rw [Bus.writeByte_seen, if_pos hram]⟩
  case rom =>
    have hne : b.kindAt c ≠ .ram := by rw [hrom]; exact nofun
    have hmemory : b.kindAt c ≠ .device := by rw [hrom]; exact nofun
    refine ⟨?_, Bus.answer_memory hmemory, by rw [Bus.writeByte_seen, if_neg hne]⟩
    rw [Bus.answer_memory (by rwa [Bus.writeByte_kindAt]), Bus.writeByte_mem_of_not_ram b v hne]
  case seen => rw [Bus.readByte_seen, if_neg hmemory]
  case device =>
    have hne : b.kindAt c ≠ .ram := by rw [hdevice]; exact nofun
    exact ⟨Bus.answer_device hdevice, by rw [Bus.readByte_seen, if_pos hdevice], by rw [Bus.writeByte_seen, if_neg hne],
      Bus.writeByte_mem_of_not_ram b v hne⟩
  case platform =>
    have hread (l : List Access) (a : Addr) := Prod.ext_iff.mp (h l a 0).1
    exact Bus.device_instance read write view (fun l a => (hread l a).1) (fun l a => (hread l a).2) (fun l a w => (h l a w).2)
      b c v hdevice

/-! Runs (R346). -/

section Runs

variable {f : State → Out} {stop : Addr} {s t : State} {ms : List HostMove}

/-- At the stop address the run has ended, whatever moves are left. -/
theorem runMoves_at_stop (h : s.pc = stop) (ms : List HostMove) : runMoves f stop ms s = .normal s := by
  cases ms <;> simp [runMoves, h]

/-- Away from it the run is still going where no move is left. -/
theorem runMoves_nil (h : s.pc ≠ stop) : runMoves f stop [] s = .stopped s := by
  simp [runMoves, h]

theorem runMoves_cons_next {m : HostMove} (h : s.pc ≠ stop) (hm : hostMove f m s = .next t) :
    runMoves f stop (m :: ms) s = runMoves f stop ms t := by
  simp [runMoves, h, hm]

theorem runMoves_cons_fault {m : HostMove} {r : Fault} (h : s.pc ≠ stop) (hm : hostMove f m s = .fault r) :
    runMoves f stop (m :: ms) s = .fault r s := by
  simp [runMoves, h, hm]

theorem runMoves_cons_refused {m : HostMove} {r : Refusal} (h : s.pc ≠ stop) (hm : hostMove f m s = .refused r) :
    runMoves f stop (m :: ms) s = .refused r s := by
  simp [runMoves, h, hm]

/-- Of the host's moves a step alone can fault (R314). -/
theorem step_of_hostMove_fault {m : HostMove} {r : Fault} (h : hostMove f m s = .fault r) : f s = .fault r := by
  cases m with
  | step => exact h
  | _ => exact nomatch h

/-- What the end of a run says of the state it names: a normal end is at the stop address, and the others are away from it; a fault is
that of the step from there. -/
def EndsAsSaid (f : State → Out) (stop : Addr) : RunEnd → Prop
  | .normal t => t.pc = stop
  | .fault r t => t.pc ≠ stop ∧ f t = .fault r
  | .refused _ t => t.pc ≠ stop
  | .stopped t => t.pc ≠ stop

theorem runMoves_endsAsSaid (f : State → Out) (stop : Addr) (ms : List HostMove) (s : State) :
    EndsAsSaid f stop (runMoves f stop ms s) := by
  induction ms generalizing s with
  | nil =>
    by_cases h : s.pc = stop
    · rw [runMoves_at_stop h]; exact h
    · rw [runMoves_nil h]; exact h
  | cons m ms ih =>
    by_cases h : s.pc = stop
    · rw [runMoves_at_stop h]; exact h
    · cases hm : hostMove f m s with
      | next t => rw [runMoves_cons_next h hm]; exact ih t
      | fault r => rw [runMoves_cons_fault h hm]; exact ⟨h, step_of_hostMove_fault hm⟩
      | refused r => rw [runMoves_cons_refused h hm]; exact h

end Runs

/-- Settles O60: a run move by move, and by induction on the moves what each end says. -/
theorem runsEndAtTheStopAddress : Obligations.RunsEndAtTheStopAddress := by
  intro f stop s
  have hends (ms : List HostMove) := runMoves_endsAsSaid f stop ms s
  refine ⟨runMoves_at_stop, fun h => ⟨runMoves_nil h, fun _ _ _ => runMoves_cons_next h, fun _ _ _ => runMoves_cons_fault h,
    fun _ _ _ => runMoves_cons_refused h⟩, ⟨rfl, rfl, rfl, rfl, fun _ => rfl⟩, fun ms t h => ?normal, fun ms r t h => ?fault,
    fun ms t h => ?stopped, fun _ => rfl⟩
  case normal => simpa only [h, EndsAsSaid] using hends ms
  case fault => simpa only [h, EndsAsSaid] using hends ms
  case stopped => simpa only [h, EndsAsSaid] using hends ms

/-! The check for unwritten registers (R307). -/

theorem readsReg_a_iff (i : Instr) : readsReg i .a = true ↔ readsA i := by
  have hmode : i.mode = .accumulator ↔ i.mnemonic ∈ [.asl, .lsr, .rol, .ror] ∧ i.mode = .accumulator :=
    ⟨fun h => ⟨mnemonic_of_accumulator h, h⟩, And.right⟩
  rw [readsReg, readsA, Bool.or_eq_true, decide_eq_true_iff, beq_iff_eq]
  exact or_congr_right hmode

theorem readsReg_x_iff (i : Instr) : readsReg i .x = true ↔ readsX i := by
  rw [readsReg, readsX, Bool.or_eq_true, decide_eq_true_iff, decide_eq_true_iff]

theorem readsReg_y_iff (i : Instr) : readsReg i .y = true ↔ readsY i := by
  rw [readsReg, readsY, Bool.or_eq_true, decide_eq_true_iff, decide_eq_true_iff]

/-- Settles O58: the first register in the order A, X, Y that is read and unwritten, in the state before the fetch. -/
theorem checkedStepStopsOnUnwrittenRegisters : Obligations.CheckedStepStopsOnUnwrittenRegisters := by
  intro s u i hfetch
  have hu := State.fetch_snd hfetch
  have hA : (readsReg i .a && !u.written .a) = true ↔ readsA i ∧ s.aWritten = false := by
    rw [hu, Bool.and_eq_true, readsReg_a_iff, Bool.not_eq_true']
    rfl
  have hX : (readsReg i .x && !u.written .x) = true ↔ readsX i ∧ s.xWritten = false := by
    rw [hu, Bool.and_eq_true, readsReg_x_iff, Bool.not_eq_true']
    rfl
  have hY : (readsReg i .y && !u.written .y) = true ↔ readsY i ∧ s.yWritten = false := by
    rw [hu, Bool.and_eq_true, readsReg_y_iff, Bool.not_eq_true']
    rfl
  rw [← hA, ← hX, ← hY]
  refine ⟨fun ha => ?unwrittenA, fun ha hx => ?unwrittenX, fun ha hx hy => ?unwrittenY, fun ha hx hy => ?written⟩
  case unwrittenA => exact checkedStep_of_unwritten hfetch (by simp only [State.firstUnwritten, List.find?, ha])
  case unwrittenX => exact checkedStep_of_unwritten hfetch (by simp only [State.firstUnwritten, List.find?, ha, hx])
  case unwrittenY => exact checkedStep_of_unwritten hfetch (by simp only [State.firstUnwritten, List.find?, ha, hx, hy])
  case written =>
    rw [step_of_fetch hfetch]
    exact checkedStep_of_written hfetch (by simp only [State.firstUnwritten, List.find?, ha, hx, hy])

end Sys2Proof.Proofs
end

section
/-!
What the accesses of an instruction do to the bus (spec/20_memory.md rules R60 to R62, R78): a bus reached by reads and writes alone
keeps the map, the canonical form, and every byte that the writes in its log leave out. Every instruction and every entry reaches its
bus so.
-/

namespace Sys2Proof.Proofs

open Sys2Proof.Machine Sys2Proof.Claims

/-- The bus `c` is the bus `b` after some reads and writes (R60). -/
inductive Accessed (b : Bus) : Bus → Prop where
  | none : Accessed b b
  | read {c : Bus} (a : Addr) (h : Accessed b c) : Accessed b (c.readByte a).2
  | write {c : Bus} (a : Addr) (v : Byte) (h : Accessed b c) : Accessed b (c.writeByte a v)

namespace Accessed

variable {b c d : Bus}

theorem trans (h : Accessed b c) (h' : Accessed c d) : Accessed b d := by
  induction h' with
  | none => exact h
  | read a _ ih => exact ih.read a
  | write a v _ ih => exact ih.write a v

/-- No access changes the map (log entry 4). -/
theorem regions_eq (h : Accessed b c) : c.regions = b.regions := by
  induction h with
  | none => rfl
  | read a _ ih => rw [Bus.readByte_regions, ih]
  | write a v _ ih => rw [Bus.writeByte_regions, ih]

/-- Accesses keep memory in its canonical form. -/
theorem wf (h : Accessed b c) (hwf : Memory.wf b.mem = true) : Memory.wf c.mem = true := by
  induction h with
  | none => exact hwf
  | read a _ ih => exact Bus.wf_readByte a ih
  | write a v _ ih => exact Bus.wf_writeByte a v ih

/-- Accesses leave every byte at an address that the log of their writes leaves out (R61, R62). -/
theorem read_eq (h : Accessed b c) :
    ∃ made, touches c = touches b ++ made ∧ ∀ a, (true, a) ∉ made → Memory.read c.mem a = Memory.read b.mem a := by
  induction h with
  | none => exact ⟨[], by simp, fun _ _ => rfl⟩
  | read a _ ih =>
    obtain ⟨made, hmade, hread⟩ := ih
    refine ⟨made ++ [(false, a)], by rw [touches_readByte, hmade, List.append_assoc], fun x hx => ?_⟩
    rw [Bus.readByte_mem]
    exact hread x fun hmem => hx (List.mem_append_left _ hmem)
  | write a v _ ih =>
    obtain ⟨made, hmade, hread⟩ := ih
    refine ⟨made ++ [(true, a)], by rw [touches_writeByte, hmade, List.append_assoc], fun x hx => ?_⟩
    rw [List.mem_append, not_or, List.mem_singleton] at hx
    obtain ⟨hmem, hne⟩ := hx
    rw [Bus.read_writeByte_other _ v fun h => hne (by rw [h]), hread x hmem]

end Accessed

theorem accessed_readWord (s : State) (lo hi : Addr) : Accessed s.bus (s.readWord lo hi).2.bus := by
  rw [State.readWord_snd]
  exact (Accessed.none.read lo).read hi

theorem accessed_effectiveAddress (s : State) (o : MemOperand) : Accessed s.bus (s.effectiveAddress o).2.bus := by
  cases o with
  | indexedIndirectX zp => exact accessed_readWord s _ _
  | indirectIndexedY zp => exact accessed_readWord s _ _
  | _ => exact .none

theorem accessed_sourceValue (s : State) (src : Source) : Accessed s.bus (s.sourceValue src).2.bus := by
  cases src with
  | immediate imm => exact .none
  | memory o => exact (accessed_effectiveAddress s o).read _

theorem accessed_push (s : State) (v : Byte) : Accessed s.bus (s.push v).bus := Accessed.none.write _ v

theorem accessed_pull (s : State) : Accessed s.bus s.pull.2.bus := Accessed.none.read _

theorem accessed_pushWord (s : State) (v : Addr) : Accessed s.bus (s.pushWord v).bus :=
  (accessed_push s _).trans (accessed_push _ _)

theorem accessed_pullWord (s : State) : Accessed s.bus s.pullWord.2.bus := (accessed_pull s).trans (accessed_pull _)

/-- An entry pushes and reads the vector (R303). -/
theorem accessed_enter (s : State) (vec ret : Addr) (brk : Bool) : Accessed s.bus (s.enter vec ret brk).bus := by
  rw [enter_eq_pushFrame]
  exact (((accessed_pushWord s ret).trans (accessed_push _ _)).read vec).read (vec + 1)

/-- A return from an exception pulls three bytes (R234). -/
theorem accessed_returnFromInterrupt (s : State) : Accessed s.bus s.returnFromInterrupt.bus := by
  rw [(returnFromInterrupt_pc_bus s).2]
  exact ((Accessed.none.read _).read _).read _

/-- Every instruction reaches its bus by accesses, whatever its shape (R78). -/
theorem accessed_exec (i : Instr) {s t : State} (h : exec i s = .next t) : Accessed s.bus t.bus := by
  cases exec_shape i with
  | read src handler runs keepsBus operand ofClass noStack =>
    rw [runs, readClass_eq] at h
    cases h
    rw [State.commit_bus, keepsBus]
    exact accessed_sourceValue s src
  | write o value runs operand ofClass noStack =>
    rw [runs, writeClass_eq] at h
    cases h
    exact (accessed_effectiveAddress s o).write _ _
  | accumulator f runs operand ofClass noStack =>
    rw [runs, modifyClass_accumulator] at h
    cases h
    exact .none
  | modify o f runs operand ofClass noStack =>
    rw [runs, modifyClass_memory] at h
    cases h
    exact ((accessed_effectiveAddress s o).read _).write _ _
  | branch rel cond runs operand ofClass noStack =>
    rw [runs, branchClass_eq] at h
    cases h
    exact .none
  | implied handler runs keepsBus operand ofClass noStack =>
    rw [runs, impliedClass_eq] at h
    cases h
    rw [State.commit_bus, keepsBus]
    exact .none
  | brk =>
    cases h
    rw [State.commit_bus]
    exact accessed_enter s _ _ _
  | jsr addr =>
    cases h
    rw [State.commit_bus]
    exact accessed_pushWord s _
  | rts =>
    cases h
    rw [State.commit_bus]
    exact accessed_pullWord s
  | rti =>
    cases h
    rw [State.commit_bus]
    exact accessed_returnFromInterrupt s
  | jmpAbs addr =>
    cases h
    exact .none
  | jmpInd addr =>
    cases h
    rw [State.commit_bus]
    exact accessed_readWord s _ _
  | pha =>
    cases h
    exact accessed_push s _
  | php =>
    cases h
    exact accessed_push s _
  | pla =>
    cases h
    exact accessed_pull s
  | plp =>
    cases h
    exact accessed_pull s

/-- An instruction writes no address but those it stores to (R78). -/
theorem write_notMem_executeTouches {i : Instr} {s : State} {c : Addr} (h : c ∉ storedAddresses s i) :
    (true, c) ∉ executeTouches s i := fun hmem =>
  h (List.mem_map.mpr ⟨(true, c), List.mem_filter.mpr ⟨hmem, rfl⟩, rfl⟩)

/-- Settles O26: what the log of an instruction adds is its accesses, and its writes are those of the stored addresses. -/
theorem memoryChangesOnlyWhereAnInstructionStores : Obligations.MemoryChangesOnlyWhereAnInstructionStores := by
  refine ⟨fun i s t h c hc => ?exec, fun i s u h => ?fetch⟩
  case exec =>
    obtain ⟨made, hmade, hread⟩ := (accessed_exec i h).read_eq
    obtain rfl : made = executeTouches s i := List.append_cancel_left (hmade.symm.trans (touches_exec i h))
    exact hread c (write_notMem_executeTouches hc)
  case fetch =>
    obtain ⟨hmem, hregions⟩ := State.fetch_mem h
    exact sameMemory_of_bus rfl hmem hregions

end Sys2Proof.Proofs
end

section
/-!
What every instruction runs, by its mnemonic and class (spec/40_fetch_decode_execute.md rules R134 and R136): one table of the
register handlers, and the families of instructions that run them, so that a statement about registers or flags of all instructions
is one lemma about the table and one case per family.
-/

namespace Sys2Proof.Proofs

open Sys2Proof.Machine Sys2Proof.Claims

/-- What a mnemonic does to the registers besides PC, of the byte that it reads or pulls where it does (files 41, 42, 44, 46, 47 and
48 of the spec); the mnemonics that store, jump, branch, push or modify their operand have none. -/
def registerHandler : Mnemonic → Byte → State → State
  | .inx => fun _ s => putX (s.x + 1) s
  | .iny => fun _ s => putY (s.y + 1) s
  | .dex => fun _ s => putX (s.x - 1) s
  | .dey => fun _ s => putY (s.y - 1) s
  | .clc => fun _ s => putFlag .carry false s
  | .sec => fun _ s => putFlag .carry true s
  | .cli => fun _ s => putFlag .interruptDisable false s
  | .sei => fun _ s => putFlag .interruptDisable true s
  | .cld => fun _ s => putFlag .decimal false s
  | .sed => fun _ s => putFlag .decimal true s
  | .clv => fun _ s => putFlag .overflow false s
  | .tax => fun _ s => putX s.a s
  | .tay => fun _ s => putY s.a s
  | .txa => fun _ s => putA s.x s
  | .tya => fun _ s => putA s.y s
  | .tsx => fun _ s => putX s.sp s
  | .txs => fun _ s => s.setSP s.x
  | .pla => putA
  | .plp => fun v s => s.setP v
  | m => readHandler m

/-- What `exec` runs an instruction as, with the tables of its mnemonic. -/
inductive Family : Instr → Prop where
  | read {i : Instr} (src : Source) (operand : i.operand = sourceOperand src)
      (runs : ∀ s, exec i s = readClass src (registerHandler i.mnemonic) s) : Family i
  | implied {i : Instr} (runs : ∀ s, exec i s = impliedClass (registerHandler i.mnemonic 0) s) : Family i
  | pull {i : Instr}
      (runs : ∀ s, exec i s = .next ((registerHandler i.mnemonic s.pull.1 s.pull.2).commit 1 none))
      (pulls : i.mnemonic ∈ [.pla, .plp]) : Family i
  | store {i : Instr} {reg : State → Byte} (o : MemOperand) (stored : storedRegister i.mnemonic = some reg)
      (operand : i.operand = .memory o) (runs : ∀ s, exec i s = writeClass o (reg s) s) : Family i
  | accumulator {i : Instr} {f : Byte → Byte → Byte × Byte} (modifies : modification i.mnemonic = some f)
      (operand : i.operand = .accumulator) (runs : ∀ s, exec i s = modifyClass .accumulator f s) : Family i
  | modify {i : Instr} {f : Byte → Byte → Byte × Byte} (o : MemOperand) (modifies : modification i.mnemonic = some f)
      (operand : i.operand = .memory o) (runs : ∀ s, exec i s = modifyClass (.memory o) f s) : Family i
  | branch {i : Instr} (rel : Byte) (f : Flag) (taken : Bool)
      (runs : ∀ s, exec i s = branchClass rel (s.flag f == taken) s) : Family i
  | brk : Family .brk
  | jsr (addr : Addr) : Family (.jsr addr)
  | rts : Family .rts
  | rti : Family .rti
  | jmpAbs (addr : Addr) : Family (.jmpAbs addr)
  | jmpInd (addr : Addr) : Family (.jmpInd addr)
  | pha : Family .pha
  | php : Family .php

/-- Every instruction is of a family. -/
theorem exec_family (i : Instr) : Family i := by
  cases i with
  | adcImm | adcZp | adcZpX | adcAbs | adcAbsX | adcAbsY | adcIndX | adcIndY
  | sbcImm | sbcZp | sbcZpX | sbcAbs | sbcAbsX | sbcAbsY | sbcIndX | sbcIndY
  | andImm | andZp | andZpX | andAbs | andAbsX | andAbsY | andIndX | andIndY
  | oraImm | oraZp | oraZpX | oraAbs | oraAbsX | oraAbsY | oraIndX | oraIndY
  | eorImm | eorZp | eorZpX | eorAbs | eorAbsX | eorAbsY | eorIndX | eorIndY | bitZp | bitAbs
  | cmpImm | cmpZp | cmpZpX | cmpAbs | cmpAbsX | cmpAbsY | cmpIndX | cmpIndY
  | cpxImm | cpxZp | cpxAbs | cpyImm | cpyZp | cpyAbs
  | ldaImm | ldaZp | ldaZpX | ldaAbs | ldaAbsX | ldaAbsY | ldaIndX | ldaIndY
  | ldxImm | ldxZp | ldxZpY | ldxAbs | ldxAbsY | ldyImm | ldyZp | ldyZpX | ldyAbs | ldyAbsX =>
    exact .read _ rfl fun _ => rfl
  | staZp | staZpX | staAbs | staAbsX | staAbsY | staIndX | staIndY | stxZp | stxZpY | stxAbs | styZp | styZpX | styAbs =>
    exact .store _ rfl rfl fun _ => rfl
  | aslAcc | lsrAcc | rolAcc | rorAcc => exact .accumulator rfl rfl fun _ => rfl
  | aslZp | aslZpX | aslAbs | aslAbsX | lsrZp | lsrZpX | lsrAbs | lsrAbsX
  | rolZp | rolZpX | rolAbs | rolAbsX | rorZp | rorZpX | rorAbs | rorAbsX
  | incZp | incZpX | incAbs | incAbsX | decZp | decZpX | decAbs | decAbsX =>
    exact .modify _ rfl rfl fun _ => rfl
  | bcs rel => exact .branch rel .carry true fun s => by rw [beq_true]; rfl
  | beq rel => exact .branch rel .zero true fun s => by rw [beq_true]; rfl
  | bmi rel => exact .branch rel .negative true fun s => by rw [beq_true]; rfl
  | bvs rel => exact .branch rel .overflow true fun s => by rw [beq_true]; rfl
  | bcc rel => exact .branch rel .carry false fun s => by rw [beq_false]; rfl
  | bne rel => exact .branch rel .zero false fun s => by rw [beq_false]; rfl
  | bpl rel => exact .branch rel .negative false fun s => by rw [beq_false]; rfl
  | bvc rel => exact .branch rel .overflow false fun s => by rw [beq_false]; rfl
  | inx | iny | dex | dey | clc | cld | cli | clv | sec | sed | sei | tax | tay | txa | tya | tsx | txs | nop =>
    exact .implied fun _ => rfl
  | pla | plp => exact .pull (fun _ => rfl) (by decide)
  | brk => exact .brk
  | jsr addr => exact .jsr addr
  | rts => exact .rts
  | rti => exact .rti
  | jmpAbs addr => exact .jmpAbs addr
  | jmpInd addr => exact .jmpInd addr
  | pha => exact .pha
  | php => exact .php

end Sys2Proof.Proofs
end

section
/-!
Which registers and flags an instruction writes (spec/10_state.md sections 2 to 4), and the invariant of every run: P is written
through the filter of R27 alone, and memory by accesses alone.
-/

namespace Sys2Proof.Proofs

open Sys2Proof.Machine Sys2Proof.Claims

/-- P has been written with a byte that has the flags of `s` outside those that the table of R36 gives the mnemonic. -/
def WroteP (m : Mnemonic) (s t : State) : Prop :=
  (∃ f, m ∈ flagWriters f) ∧ ∃ v, t.p = filterP v ∧ ∀ f, m ∉ flagWriters f → testFlag v f = s.flag f

section Writers

variable {m : Mnemonic} {s t : State}

/-- A flag that a mnemonic is not given is not one that it is given. -/
theorem ne_of_notMem_flagWriters {f g : Flag} (hf : (flagWriters f).contains m = true) (hg : m ∉ flagWriters g) : g ≠ f := by
  rintro rfl
  exact hg (List.contains_iff_mem.mp hf)

theorem wroteP_setFlag {f : Flag} {b : Bool} (hf : (flagWriters f).contains m = true)
    (hp : t.p = filterP (setFlag s.status f b)) : WroteP m s t := by
  refine ⟨⟨f, List.contains_iff_mem.mp hf⟩, _, hp, fun g hg => ?_⟩
  rw [testFlag_setFlag, if_neg (ne_of_notMem_flagWriters hf hg), testFlag_status]

/-- The writers of Z are those of N. -/
theorem wroteP_setNZ {r : Byte} (hz : (flagWriters .zero).contains m = true) (hp : t.p = filterP (setNZ s.status r)) :
    WroteP m s t := by
  refine ⟨⟨.zero, List.contains_iff_mem.mp hz⟩, _, hp, fun g hg => ?_⟩
  have hN : g ≠ .negative := ne_of_notMem_flagWriters (f := .negative) hz hg
  rw [testFlag_setNZ, if_neg hN, if_neg (ne_of_notMem_flagWriters hz hg), testFlag_status]

theorem wroteP_shiftP {r : Byte} {c : Bool} (hc : (flagWriters .carry).contains m = true)
    (hz : (flagWriters .zero).contains m = true) (hp : t.p = filterP (shiftP s.status r c)) : WroteP m s t := by
  refine ⟨⟨.zero, List.contains_iff_mem.mp hz⟩, _, hp, fun g hg => ?_⟩
  have hN : g ≠ .negative := ne_of_notMem_flagWriters (f := .negative) hz hg
  rw [shiftP, testFlag_setNZ, if_neg hN, if_neg (ne_of_notMem_flagWriters hz hg), testFlag_withCarry,
    if_neg (ne_of_notMem_flagWriters hc hg), testFlag_status]

theorem wroteP_addToA {r a b : Byte} {c : Bool} (hc : (flagWriters .carry).contains m = true)
    (hv : (flagWriters .overflow).contains m = true) (hz : (flagWriters .zero).contains m = true)
    (hp : t.p = filterP (setNZ (withOverflow (withCarry s.status c) a b r) r)) : WroteP m s t := by
  refine ⟨⟨.zero, List.contains_iff_mem.mp hz⟩, _, hp, fun g hg => ?_⟩
  have hN : g ≠ .negative := ne_of_notMem_flagWriters (f := .negative) hz hg
  rw [testFlag_setNZ, if_neg hN, if_neg (ne_of_notMem_flagWriters hz hg), testFlag_withOverflow,
    if_neg (ne_of_notMem_flagWriters hv hg), testFlag_withCarry, if_neg (ne_of_notMem_flagWriters hc hg), testFlag_status]

theorem wroteP_bitP {a v : Byte} (hv : (flagWriters .overflow).contains m = true)
    (hz : (flagWriters .zero).contains m = true) (hp : t.p = filterP (bitP s.status a v)) : WroteP m s t := by
  refine ⟨⟨.zero, List.contains_iff_mem.mp hz⟩, _, hp, fun g hg => ?_⟩
  have hN : g ≠ .negative := ne_of_notMem_flagWriters (f := .negative) hz hg
  rw [testFlag_bitP, if_neg (ne_of_notMem_flagWriters hv hg), if_neg hN, if_neg (ne_of_notMem_flagWriters hz hg), testFlag_status]

/-- A mnemonic that the table gives every flag may write P with any byte. -/
theorem wroteP_pulled {v : Byte} (hall : ∀ f, (flagWriters f).contains m = true) (hp : t.p = filterP v) : WroteP m s t :=
  ⟨⟨.zero, List.contains_iff_mem.mp (hall .zero)⟩, v, hp, fun f hf => absurd rfl (ne_of_notMem_flagWriters (hall f) hf)⟩

end Writers

/-- The register handlers leave P or write it through the filter, with the flags of their mnemonic changed alone (R36). -/
theorem registerHandler_p (m : Mnemonic) (v : Byte) (s : State) :
    (registerHandler m v s).p = s.p ∨ WroteP m s (registerHandler m v s) := by
  cases m with
  | adc | sbc => exact .inr (wroteP_addToA rfl rfl rfl rfl)
  | and | ora | eor | lda | ldx | ldy | inx | iny | dex | dey | tax | tay | txa | tya | tsx | pla =>
    exact .inr (wroteP_setNZ rfl rfl)
  | bit => exact .inr (wroteP_bitP rfl rfl rfl)
  | cmp | cpx | cpy => exact .inr (wroteP_shiftP rfl rfl rfl)
  | clc | sec => exact .inr (wroteP_setFlag (f := .carry) rfl rfl)
  | cli | sei => exact .inr (wroteP_setFlag (f := .interruptDisable) rfl rfl)
  | cld | sed => exact .inr (wroteP_setFlag (f := .decimal) rfl rfl)
  | clv => exact .inr (wroteP_setFlag (f := .overflow) rfl rfl)
  | plp => exact .inr (wroteP_pulled (fun f => by cases f <;> rfl) rfl)
  | _ => exact .inl rfl

/-- The modifications write P with the flags of their mnemonic (R190, R289, R290). -/
theorem modification_p {m : Mnemonic} {f : Byte → Byte → Byte × Byte} (h : modification m = some f) {v : Byte} {s t : State}
    (hp : t.p = filterP (f v s.status).2) : WroteP m s t := by
  cases m with
  | asl | lsr | rol | ror =>
    cases h
    exact wroteP_shiftP rfl rfl hp
  | inc | dec =>
    cases h
    exact wroteP_setNZ rfl hp
  | _ => exact nomatch h

/-- Of the registers, pulling a word writes SP alone (R68). -/
theorem pullWord_registers (s : State) :
    SameA s s.pullWord.2 ∧ SameX s s.pullWord.2 ∧ SameY s s.pullWord.2 ∧ s.pullWord.2.p = s.p := by
  rw [State.pullWord_snd]
  exact ⟨⟨rfl, rfl⟩, ⟨rfl, rfl⟩, ⟨rfl, rfl⟩, rfl⟩

/-- An instruction leaves P or writes it through the filter, with the flags of its mnemonic changed alone (R27, R36). -/
theorem exec_p (i : Instr) {s t : State} (h : exec i s = .next t) : t.p = s.p ∨ WroteP i.mnemonic s t := by
  cases exec_family i with
  | read src _ runs =>
    rw [runs, readClass_eq, State.sourceValue_snd] at h
    cases h
    exact registerHandler_p i.mnemonic _ (s.setBus _)
  | implied runs =>
    rw [runs, impliedClass_eq] at h
    cases h
    exact registerHandler_p i.mnemonic 0 s
  | pull runs _ =>
    rw [runs, State.pull_snd] at h
    cases h
    exact registerHandler_p i.mnemonic _ ((s.setSP _).setBus _)
  | store o _ _ runs =>
    rw [runs, writeClass_setBus] at h
    cases h
    exact .inl rfl
  | accumulator modifies _ runs =>
    rw [runs, modifyClass_accumulator] at h
    cases h
    exact .inr (modification_p modifies rfl)
  | modify o modifies _ runs =>
    rw [runs, modifyClass_memory] at h
    cases h
    exact .inr (modification_p modifies rfl)
  | branch rel f taken runs =>
    rw [runs, branchClass_eq] at h
    cases h
    exact .inl rfl
  | brk =>
    cases h
    obtain ⟨-, -, -, -, hp⟩ := enter_registers s irqVector (s.pc + 2) true
    exact .inr (wroteP_setFlag (f := .interruptDisable) rfl hp)
  | rti =>
    cases h
    obtain ⟨-, -, -, -, hp⟩ := returnFromInterrupt_registers s
    exact .inr (wroteP_pulled (fun f => by cases f <;> rfl) hp)
  | rts =>
    cases h
    obtain ⟨-, -, -, hp⟩ := pullWord_registers s
    exact .inl hp
  | jmpInd addr =>
    cases h
    rw [State.commit_p, State.indirectTarget, State.readWord_snd]
    exact .inl rfl
  | jsr | jmpAbs | pha | php =>
    cases h
    exact .inl rfl

/-- Settles O24: where P is written, the byte has the flags of the state before but those of the mnemonic. -/
theorem onlyTheListedInstructionsWriteEachFlag : Obligations.OnlyTheListedInstructionsWriteEachFlag := by
  intro i s t h
  obtain hp | ⟨⟨f, hf⟩, v, hp, hkeep⟩ := exec_p i h
  · exact ⟨fun g _ => by rw [State.flag, State.status, hp, State.flag, State.status], fun _ => hp⟩
  · exact ⟨fun g hg => (State.flag_of_p hp g).trans (hkeep g hg), fun hnone => absurd hf (hnone f)⟩

/-- The register handlers write A, X, Y and SP under their writers alone (R21 to R23, R25). -/
theorem registerHandler_keeps (m : Mnemonic) (v : Byte) (s : State) :
    let t := registerHandler m v s
    (m ∉ [.adc, .sbc, .and, .ora, .eor, .lda, .pla, .txa, .tya] → SameA s t) ∧
    (m ∉ [.ldx, .tax, .tsx, .inx, .dex] → SameX s t) ∧
    (m ∉ [.ldy, .tay, .iny, .dey] → SameY s t) ∧
    (m ≠ .txs → t.sp = s.sp) := by
  cases m with
  | adc | sbc | and | ora | eor | lda | pla | txa | tya =>
    exact ⟨absurd (by decide), fun _ => ⟨rfl, rfl⟩, fun _ => ⟨rfl, rfl⟩, fun _ => rfl⟩
  | ldx | tax | tsx | inx | dex => exact ⟨fun _ => ⟨rfl, rfl⟩, absurd (by decide), fun _ => ⟨rfl, rfl⟩, fun _ => rfl⟩
  | ldy | tay | iny | dey => exact ⟨fun _ => ⟨rfl, rfl⟩, fun _ => ⟨rfl, rfl⟩, absurd (by decide), fun _ => rfl⟩
  | txs => exact ⟨fun _ => ⟨rfl, rfl⟩, fun _ => ⟨rfl, rfl⟩, fun _ => ⟨rfl, rfl⟩, absurd rfl⟩
  | _ => exact ⟨fun _ => ⟨rfl, rfl⟩, fun _ => ⟨rfl, rfl⟩, fun _ => ⟨rfl, rfl⟩, fun _ => rfl⟩

/-- The registers besides P and PC are unchanged but by the instructions that the spec lists for each. -/
def KeepsRegisters (i : Instr) (s t : State) : Prop :=
  (¬ writesA i → SameA s t) ∧
  (i.mnemonic ∉ [.ldx, .tax, .tsx, .inx, .dex] → SameX s t) ∧
  (i.mnemonic ∉ [.ldy, .tay, .iny, .dey] → SameY s t) ∧
  (i.mnemonic ∉ [.brk, .jsr, .rts, .rti, .pha, .php, .pla, .plp, .txs] → t.sp = s.sp)

theorem keepsRegisters_of_same {i : Instr} {s t : State} (h : SameRegisters s t) : KeepsRegisters i s t := by
  obtain ⟨hA, hX, hY, hsp⟩ := h
  exact ⟨fun _ => hA, fun _ => hX, fun _ => hY, fun _ => hsp⟩

/-- An instruction that may write SP keeps its registers where A, X and Y stand. -/
theorem keepsRegisters_of_sp {i : Instr} {s t : State}
    (hsp : i.mnemonic ∈ [.brk, .jsr, .rts, .rti, .pha, .php, .pla, .plp, .txs])
    (h : SameA s t ∧ SameX s t ∧ SameY s t) : KeepsRegisters i s t := by
  obtain ⟨hA, hX, hY⟩ := h
  exact ⟨fun _ => hA, fun _ => hX, fun _ => hY, absurd hsp⟩

/-- An instruction that runs its register handler keeps its registers; whatever has happened to SP and the bus before it is said by
the state `u`. -/
theorem keepsRegisters_of_handler {i : Instr} {v : Byte} {s u : State} (hu : SameA s u ∧ SameX s u ∧ SameY s u)
    (hsp : i.mnemonic ∉ [.brk, .jsr, .rts, .rti, .pha, .php, .pla, .plp, .txs] → u.sp = s.sp) (n : Nat) :
    KeepsRegisters i s ((registerHandler i.mnemonic v u).commit n none) := by
  obtain ⟨⟨ha, haw⟩, ⟨hx, hxw⟩, hy, hyw⟩ := hu
  obtain ⟨hA, hX, hY, hSP⟩ := registerHandler_keeps i.mnemonic v u
  refine ⟨fun h => ?keepA, fun h => ?keepX, fun h => ?keepY, fun h => ?keepSP⟩
  case keepA =>
    obtain ⟨ha', haw'⟩ := hA fun hm => h (.inl hm)
    exact ⟨ha'.trans ha, haw'.trans haw⟩
  case keepX => exact ⟨(hX h).1.trans hx, (hX h).2.trans hxw⟩
  case keepY => exact ⟨(hY h).1.trans hy, (hY h).2.trans hyw⟩
  case keepSP => exact (hSP fun hm => h (by rw [hm]; decide)).trans (hsp h)

/-- Every instruction keeps the registers that it is not listed for (R21 to R23, R25). -/
theorem exec_keepsRegisters (i : Instr) {s t : State} (h : exec i s = .next t) : KeepsRegisters i s t := by
  cases exec_family i with
  | read src _ runs =>
    rw [runs, readClass_eq, State.sourceValue_snd] at h
    cases h
    exact keepsRegisters_of_handler ⟨⟨rfl, rfl⟩, ⟨rfl, rfl⟩, ⟨rfl, rfl⟩⟩ (fun _ => rfl) _
  | implied runs =>
    rw [runs, impliedClass_eq] at h
    cases h
    exact keepsRegisters_of_handler ⟨⟨rfl, rfl⟩, ⟨rfl, rfl⟩, ⟨rfl, rfl⟩⟩ (fun _ => rfl) _
  | pull runs pulls =>
    rw [runs] at h
    cases h
    have hu : SameA s s.pull.2 ∧ SameX s s.pull.2 ∧ SameY s s.pull.2 := ⟨⟨rfl, rfl⟩, ⟨rfl, rfl⟩, ⟨rfl, rfl⟩⟩
    have hpulls : [Mnemonic.pla, .plp] ⊆ [.brk, .jsr, .rts, .rti, .pha, .php, .pla, .plp, .txs] := by decide
    exact keepsRegisters_of_handler hu (absurd (hpulls pulls)) 1
  | store o _ _ runs =>
    rw [runs, writeClass_setBus] at h
    cases h
    exact keepsRegisters_of_same ⟨⟨rfl, rfl⟩, ⟨rfl, rfl⟩, ⟨rfl, rfl⟩, rfl⟩
  | accumulator _ operand runs =>
    rw [runs, modifyClass_accumulator] at h
    cases h
    have hmode : i.mode = .accumulator := congrArg Operand.mode operand
    exact ⟨absurd (.inr ⟨mnemonic_of_accumulator hmode, hmode⟩), fun _ => ⟨rfl, rfl⟩, fun _ => ⟨rfl, rfl⟩, fun _ => rfl⟩
  | modify o _ _ runs =>
    rw [runs, modifyClass_memory] at h
    cases h
    exact keepsRegisters_of_same ⟨⟨rfl, rfl⟩, ⟨rfl, rfl⟩, ⟨rfl, rfl⟩, rfl⟩
  | branch rel f taken runs =>
    rw [runs, branchClass_eq] at h
    cases h
    exact keepsRegisters_of_same ⟨⟨rfl, rfl⟩, ⟨rfl, rfl⟩, ⟨rfl, rfl⟩, rfl⟩
  | brk =>
    cases h
    obtain ⟨hA, hX, hY, -⟩ := enter_registers s irqVector (s.pc + 2) true
    exact keepsRegisters_of_sp (by decide) ⟨hA, hX, hY⟩
  | rti =>
    cases h
    obtain ⟨hA, hX, hY, -⟩ := returnFromInterrupt_registers s
    exact keepsRegisters_of_sp (by decide) ⟨hA, hX, hY⟩
  | rts =>
    cases h
    obtain ⟨hA, hX, hY, -⟩ := pullWord_registers s
    exact keepsRegisters_of_sp (by decide) ⟨hA, hX, hY⟩
  | jmpInd addr =>
    cases h
    rw [State.indirectTarget, State.readWord_snd]
    exact keepsRegisters_of_same ⟨⟨rfl, rfl⟩, ⟨rfl, rfl⟩, ⟨rfl, rfl⟩, rfl⟩
  | jmpAbs addr =>
    cases h
    exact keepsRegisters_of_same ⟨⟨rfl, rfl⟩, ⟨rfl, rfl⟩, ⟨rfl, rfl⟩, rfl⟩
  | jsr addr =>
    cases h
    exact keepsRegisters_of_sp (List.contains_iff_mem.mp rfl) ⟨⟨rfl, rfl⟩, ⟨rfl, rfl⟩, ⟨rfl, rfl⟩⟩
  | pha | php =>
    cases h
    exact keepsRegisters_of_sp (by decide) ⟨⟨rfl, rfl⟩, ⟨rfl, rfl⟩, ⟨rfl, rfl⟩⟩

/-- Settles O23: the registers by family, and the map by accesses. -/
theorem onlyTheListedInstructionsWriteEachRegister : Obligations.OnlyTheListedInstructionsWriteEachRegister := by
  intro i s t h
  obtain ⟨hA, hX, hY, hsp⟩ := exec_keepsRegisters i h
  exact ⟨hA, hX, hY, hsp, (accessed_exec i h).regions_eq⟩

/-! The invariant. -/

/-- A bus reached by accesses, and P kept or written through the filter, keep the invariant. -/
theorem inv_of_accessed {s t : State} (h : s.Inv) (hbus : Accessed s.bus t.bus) (hp : t.p = s.p ∨ ∃ v, t.p = filterP v) :
    t.Inv := by
  obtain ⟨hwf, hB, hU⟩ := h
  refine ⟨hbus.wf hwf, ?_⟩
  obtain hp | ⟨v, hp⟩ := hp
  · rw [hp]; exact ⟨hB, hU⟩
  · rw [hp]; exact ⟨filterP_bit4 v, filterP_bit5 v⟩

/-- The invariant says nothing of the log (log entry 6). -/
theorem inv_clearLog {s : State} (h : s.Inv) : s.clearLog.Inv := h

/-- Settles O21: the fetch leaves memory and P, and the instruction accesses the bus and writes P through the filter. -/
theorem stepKeepsTheInvariant : Obligations.StepKeepsTheInvariant := by
  intro s t hinv h
  obtain ⟨i, u, hfetch, hexec⟩ := step_next h
  have hu : u.Inv := by
    obtain ⟨hwf, hP⟩ := hinv
    obtain ⟨hmem, -⟩ := State.fetch_mem hfetch
    refine ⟨by rwa [hmem], ?_⟩
    rw [State.fetch_snd hfetch]
    exact hP
  exact inv_of_accessed hu (accessed_exec i hexec) ((exec_p i hexec).imp_right fun ⟨_, v, hp, _⟩ => ⟨v, hp⟩)

/-- An entry keeps the invariant (R303). -/
theorem inv_enter {s : State} (h : s.Inv) (vec ret : Addr) (brk : Bool) : (s.enter vec ret brk).Inv :=
  inv_of_accessed h (accessed_enter s vec ret brk) (.inr ⟨_, (enter_registers s vec ret brk).2.2.2.2⟩)

/-- Reset gives the invariant from any state with canonical memory: it reads the bus and writes P with 0x24 (R330). -/
theorem inv_hostReset {s : State} (h : Memory.wf s.bus.mem = true) : s.hostReset.Inv :=
  ⟨(accessed_readWord s.clearLog resetVector (resetVector + 1)).wf h, (rfl : (0x24#8).getLsbD 4 = false),
    (rfl : (0x24#8).getLsbD 5 = true)⟩

/-- A move of the host keeps the invariant (R314). -/
theorem inv_hostMove {s t : State} {m : HostMove} (hm : m.wf = true) (h : s.Inv) (ht : hostMove step m s = .next t) : t.Inv := by
  cases m with
  | step => exact stepKeepsTheInvariant s t h ht
  | reset =>
    cases ht
    exact inv_hostReset h.1
  | irq =>
    cases ht
    cases hI : s.flag .interruptDisable with
    | true =>
      rw [irq_of_masked hI]
      exact h
    | false =>
      rw [irq_of_unmasked hI]
      exact inv_enter (inv_clearLog h) irqVector s.pc false
  | nmi =>
    cases ht
    exact inv_enter (inv_clearLog h) nmiVector s.pc false
  | busUpdate b =>
    cases ht
    exact ⟨hm, h.2⟩

/-- Settles O22: by induction on the moves; the launch is a reset. -/
theorem reachableStatesHaveTheInvariant : Obligations.ReachableStatesHaveTheInvariant := by
  intro s hs
  induction hs with
  | launch b hwf => exact inv_hostReset hwf
  | move m hm _ ht ih => exact inv_hostMove hm ih ht

end Sys2Proof.Proofs
end

section
/-!
Registers that an instruction does not read (spec/60_exceptions.md rule R307): running it with another value in such a register gives
the same state but for that register. So a checked step does not see the values of unwritten registers.
-/

namespace Sys2Proof.Proofs

open Sys2Proof.Machine Sys2Proof.Claims

/-- The value that a register holds. -/
def regOf (r : Reg) (s : State) : Byte :=
  match r with
  | .a => s.a
  | .x => s.x
  | .y => s.y

/-- The state with another value in a register, and its written bit as it is. -/
def putReg (r : Reg) (s : State) (v : Byte) : State :=
  match r with
  | .a => withA s v
  | .x => withX s v
  | .y => withY s v

section PutReg

variable (r : Reg) (s : State) (v : Byte)

@[simp] theorem putReg_sp : (putReg r s v).sp = s.sp := by cases r <;> rfl
@[simp] theorem putReg_pc : (putReg r s v).pc = s.pc := by cases r <;> rfl
@[simp] theorem putReg_bus : (putReg r s v).bus = s.bus := by cases r <;> rfl
@[simp] theorem putReg_status : (putReg r s v).status = s.status := by cases r <;> rfl
@[simp] theorem putReg_flag (f : Flag) : (putReg r s v).flag f = s.flag f := by cases r <;> rfl
@[simp] theorem putReg_setSP (w : Byte) : (putReg r s v).setSP w = putReg r (s.setSP w) v := by cases r <;> rfl
@[simp] theorem putReg_setP (w : Byte) : (putReg r s v).setP w = putReg r (s.setP w) v := by cases r <;> rfl
@[simp] theorem putReg_setPC (w : Addr) : (putReg r s v).setPC w = putReg r (s.setPC w) v := by cases r <;> rfl
@[simp] theorem putReg_setBus (b : Bus) : (putReg r s v).setBus b = putReg r (s.setBus b) v := by cases r <;> rfl
@[simp] theorem putReg_commit (n : Nat) (o : Option Addr) : (putReg r s v).commit n o = putReg r (s.commit n o) v := by
  cases r <;> rfl

theorem putReg_readWord (lo hi : Addr) :
    (putReg r s v).readWord lo hi = ((s.readWord lo hi).1, putReg r (s.readWord lo hi).2 v) := by
  apply Prod.ext <;> simp

theorem putReg_push (w : Byte) : (putReg r s v).push w = putReg r (s.push w) v := by simp

theorem putReg_pushWord (w : Addr) : (putReg r s v).pushWord w = putReg r (s.pushWord w) v := by
  simp [State.pushWord_eq]

theorem putReg_pullWord : (putReg r s v).pullWord = (s.pullWord.1, putReg r s.pullWord.2 v) := by
  apply Prod.ext <;> simp [State.pullWord_fst, State.pullWord_snd]

theorem putReg_enter (vec ret : Addr) (brk : Bool) :
    (putReg r s v).enter vec ret brk = putReg r (s.enter vec ret brk) v := by
  simp [State.enter_eq]

theorem putReg_returnFromInterrupt : (putReg r s v).returnFromInterrupt = putReg r s.returnFromInterrupt v := by
  simp [State.returnFromInterrupt_eq]

/-- Putting the value that stands there changes nothing. -/
theorem putReg_regOf : putReg r s (regOf r s) = s := by cases r <;> rfl

end PutReg

/-- `t'` is `t` but for the register, which holds in `t'` what it holds in `t`, or the value `v` that it held before where from `s` to
`t` it is unchanged. -/
def Twin (r : Reg) (v : Byte) (s t t' : State) : Prop :=
  ∃ w, t' = putReg r t w ∧ (w = regOf r t ∨ (w = v ∧ regOf r t = regOf r s ∧ t.written r = s.written r))

/-- An update of the state that takes no notice of a register keeps twins. -/
theorem Twin.map {r : Reg} {v : Byte} {s t t' : State} (h : Twin r v s t t') {g : State → State}
    (hput : ∀ w, g (putReg r t w) = putReg r (g t) w) (hreg : regOf r (g t) = regOf r t) (hwritten : (g t).written r = t.written r) :
    Twin r v s (g t) (g t') := by
  obtain ⟨w, rfl, hw⟩ := h
  refine ⟨w, hput w, ?_⟩
  rwa [hreg, hwritten]

/-- The commit of a step takes no notice of A, X and Y. -/
theorem Twin.commit {r : Reg} {v : Byte} {s t t' : State} (h : Twin r v s t t') (n : Nat) (o : Option Addr) :
    Twin r v s (t.commit n o) (t'.commit n o) :=
  h.map (g := fun u => u.commit n o) (fun w => putReg_commit r t w n o) (by cases r <;> rfl) (by cases r <;> rfl)

/-- The mnemonics that read a register in all their modes (the table of R307). -/
def readersOf : Reg → List Mnemonic
  | .a => [.adc, .sbc, .and, .ora, .eor, .bit, .cmp, .sta, .pha, .tax, .tay]
  | .x => [.cpx, .stx, .txa, .txs, .inx, .dex]
  | .y => [.cpy, .sty, .tya, .iny, .dey]

theorem notMem_readersOf {i : Instr} {r : Reg} (h : readsReg i r = false) : i.mnemonic ∉ readersOf r := by
  cases r <;> exact of_decide_eq_false (Bool.or_eq_false_iff.mp h).1

/-- A register handler that does not read a register gives twins. -/
theorem registerHandler_twin {m : Mnemonic} {r : Reg} (h : m ∉ readersOf r) (val v : Byte) (s : State) :
    Twin r v s (registerHandler m val s) (registerHandler m val (putReg r s v)) := by
  cases r with
  | a =>
    cases m with
    | adc | sbc | and | ora | eor | bit | cmp | sta | pha | tax | tay => exact absurd (by decide) h
    | lda | pla | txa | tya => exact ⟨_, rfl, .inl rfl⟩
    | _ => exact ⟨v, rfl, .inr ⟨rfl, rfl, rfl⟩⟩
  | x =>
    cases m with
    | cpx | stx | txa | txs | inx | dex => exact absurd (by decide) h
    | ldx | tax | tsx => exact ⟨_, rfl, .inl rfl⟩
    | _ => exact ⟨v, rfl, .inr ⟨rfl, rfl, rfl⟩⟩
  | y =>
    cases m with
    | cpy | sty | tya | iny | dey => exact absurd (by decide) h
    | ldy | tay => exact ⟨_, rfl, .inl rfl⟩
    | _ => exact ⟨v, rfl, .inr ⟨rfl, rfl, rfl⟩⟩

/-- The register that a memory operand is indexed by (R143, R144, R146, R147, R149, R150). -/
def indexRegister : MemOperand → Option Reg
  | .zeroPageX _ | .absoluteX _ | .indexedIndirectX _ => some .x
  | .zeroPageY _ | .absoluteY _ | .indirectIndexedY _ => some .y
  | .zeroPage _ | .absolute _ => none

/-- An indexed mode reads its register (the table of R307). -/
theorem indexRegister_ne {i : Instr} {o : MemOperand} {r : Reg} (operand : i.operand = .memory o) (h : readsReg i r = false) :
    indexRegister o ≠ some r := by
  have hmode : i.mode = o.mode := congrArg Operand.mode operand
  intro hindex
  cases o <;> cases hindex
  all_goals simp [readsReg, hmode, MemOperand.mode] at h

/-- Forming an address takes no notice of a register that does not index it. -/
theorem effectiveAddress_putReg {o : MemOperand} {r : Reg} (h : indexRegister o ≠ some r) (s : State) (v : Byte) :
    (putReg r s v).effectiveAddress o = ((s.effectiveAddress o).1, putReg r (s.effectiveAddress o).2 v) := by
  cases r with
  | a => cases o <;> rfl
  | x =>
    cases o with
    | zeroPageX | absoluteX | indexedIndirectX => exact absurd rfl h
    | _ => rfl
  | y =>
    cases o with
    | zeroPageY | absoluteY | indirectIndexedY => exact absurd rfl h
    | _ => rfl

theorem sourceValue_putReg {i : Instr} {src : Source} {r : Reg} (operand : i.operand = sourceOperand src)
    (h : readsReg i r = false) (s : State) (v : Byte) :
    (putReg r s v).sourceValue src = ((s.sourceValue src).1, putReg r (s.sourceValue src).2 v) := by
  cases src with
  | immediate imm => rfl
  | memory o =>
    simp only [State.sourceValue, effectiveAddress_putReg (indexRegister_ne operand h)]
    apply Prod.ext <;> simp

/-- A store does not take its byte from a register that it does not read (R285 to R287). -/
theorem storedRegister_putReg {m : Mnemonic} {reg : State → Byte} {r : Reg} (stored : storedRegister m = some reg)
    (h : m ∉ readersOf r) (s : State) (v : Byte) : reg (putReg r s v) = reg s := by
  cases m with
  | sta =>
    cases stored
    cases r with
    | a => exact absurd (by decide) h
    | x | y => rfl
  | stx =>
    cases stored
    cases r with
    | x => exact absurd (by decide) h
    | a | y => rfl
  | sty =>
    cases stored
    cases r with
    | y => exact absurd (by decide) h
    | a | x => rfl
  | _ => exact nomatch stored

/-- Where an instruction takes no notice of a register and keeps it, the two runs are twins. -/
theorem twin_of_kept {r : Reg} {s t : State} (v : Byte) (hreg : regOf r t = regOf r s) (hwritten : t.written r = s.written r) :
    Twin r v s t (putReg r t v) := ⟨v, rfl, .inr ⟨rfl, hreg, hwritten⟩⟩

theorem twin_of_sameAXY {r : Reg} {s t : State} (v : Byte) (h : SameA s t ∧ SameX s t ∧ SameY s t) :
    Twin r v s t (putReg r t v) := by
  obtain ⟨⟨hA, hAw⟩, ⟨hX, hXw⟩, hY, hYw⟩ := h
  cases r with
  | a => exact twin_of_kept v hA hAw
  | x => exact twin_of_kept v hX hXw
  | y => exact twin_of_kept v hY hYw

/-- Twins of a state with the register of `s` are twins from `s`. -/
theorem Twin.of_same {r : Reg} {v : Byte} {s u t t' : State} (h : Twin r v u t t') (hreg : regOf r u = regOf r s)
    (hwritten : u.written r = s.written r) : Twin r v s t t' := by
  rwa [Twin, hreg, hwritten] at h

/-- An instruction that does not read a register gives twins, whatever value is put into it (R307). -/
theorem exec_twin {i : Instr} {r : Reg} (hreads : readsReg i r = false) {s t : State} (v : Byte) (h : exec i s = .next t) :
    ∃ t', exec i (putReg r s v) = .next t' ∧ Twin r v s t t' := by
  have hreaders := notMem_readersOf hreads
  cases exec_family i with
  | read src operand runs =>
    rw [runs, readClass_eq] at h
    cases h
    refine ⟨_, by rw [runs, readClass_eq, sourceValue_putReg operand hreads], ?_⟩
    rw [State.sourceValue_snd]
    exact ((registerHandler_twin hreaders _ v (s.setBus _)).of_same (by cases r <;> rfl) (by cases r <;> rfl)).commit _ _
  | implied runs =>
    rw [runs, impliedClass_eq] at h
    cases h
    exact ⟨_, by rw [runs, impliedClass_eq], (registerHandler_twin hreaders 0 v s).commit _ _⟩
  | pull runs _ =>
    rw [runs] at h
    cases h
    refine ⟨_, runs _, ?_⟩
    simp only [State.pull_fst, State.pull_snd, putReg_sp, putReg_bus, putReg_setSP, putReg_setBus]
    exact ((registerHandler_twin hreaders _ v ((s.setSP _).setBus _)).of_same (by cases r <;> rfl) (by cases r <;> rfl)).commit _ _
  | store o stored operand runs =>
    rw [runs, writeClass_setBus] at h
    cases h
    refine ⟨_, by rw [runs, writeClass_setBus, effectiveAddress_putReg (indexRegister_ne operand hreads),
      storedRegister_putReg stored hreaders, putReg_setBus, putReg_commit, putReg_bus], ?_⟩
    exact twin_of_kept v (by cases r <;> rfl) (by cases r <;> rfl)
  | accumulator _ operand runs =>
    have hmode : i.mode = .accumulator := congrArg Operand.mode operand
    rw [runs, modifyClass_accumulator] at h
    cases h
    refine ⟨_, by rw [runs, modifyClass_accumulator], ?_⟩
    cases r with
    | a => simp [readsReg, hmode] at hreads
    | x | y => exact twin_of_kept v rfl rfl
  | modify o _ operand runs =>
    rw [runs, modifyClass_memory] at h
    cases h
    refine ⟨_, by simp [runs, modifyClass_memory, effectiveAddress_putReg (indexRegister_ne operand hreads)]; rfl, ?_⟩
    exact twin_of_kept v (by cases r <;> rfl) (by cases r <;> rfl)
  | branch rel f taken runs =>
    rw [runs, branchClass_eq] at h
    cases h
    refine ⟨_, by rw [runs, branchClass_eq, putReg_flag, putReg_pc, putReg_commit], ?_⟩
    exact twin_of_kept v (by cases r <;> rfl) (by cases r <;> rfl)
  | brk =>
    cases h
    obtain ⟨hA, hX, hY, -⟩ := enter_registers s irqVector (s.pc + 2) true
    refine ⟨_, rfl, ?_⟩
    rw [putReg_pc, putReg_enter, putReg_pc, putReg_commit]
    exact twin_of_sameAXY v ⟨hA, hX, hY⟩
  | rti =>
    cases h
    obtain ⟨hA, hX, hY, -⟩ := returnFromInterrupt_registers s
    refine ⟨_, rfl, ?_⟩
    rw [putReg_returnFromInterrupt, putReg_pc, putReg_commit]
    exact twin_of_sameAXY v ⟨hA, hX, hY⟩
  | rts =>
    cases h
    obtain ⟨hA, hX, hY, -⟩ := pullWord_registers s
    refine ⟨_, rfl, ?_⟩
    rw [putReg_pullWord, putReg_commit]
    exact twin_of_sameAXY v ⟨hA, hX, hY⟩
  | jsr addr =>
    cases h
    refine ⟨_, rfl, ?_⟩
    rw [putReg_pc, putReg_pushWord, putReg_commit]
    exact twin_of_sameAXY v ⟨⟨rfl, rfl⟩, ⟨rfl, rfl⟩, ⟨rfl, rfl⟩⟩
  | jmpAbs addr =>
    cases h
    refine ⟨_, rfl, ?_⟩
    rw [putReg_commit]
    exact twin_of_sameAXY v ⟨⟨rfl, rfl⟩, ⟨rfl, rfl⟩, ⟨rfl, rfl⟩⟩
  | jmpInd addr =>
    cases h
    refine ⟨_, rfl, ?_⟩
    simp only [State.indirectTarget, putReg_readWord, putReg_commit]
    exact twin_of_sameAXY v ⟨⟨rfl, rfl⟩, ⟨rfl, rfl⟩, ⟨rfl, rfl⟩⟩
  | pha =>
    cases h
    refine ⟨_, rfl, ?_⟩
    cases r with
    | a => exact absurd (by decide) hreaders
    | x | y => exact twin_of_kept v rfl rfl
  | php =>
    cases h
    refine ⟨_, rfl, ?_⟩
    simp only [putReg_status, putReg_push, putReg_commit]
    exact twin_of_sameAXY v ⟨⟨rfl, rfl⟩, ⟨rfl, rfl⟩, ⟨rfl, rfl⟩⟩

/-- Settles O25: the twin of the register in each case. -/
theorem unreadRegistersDoNotMatter : Obligations.UnreadRegistersDoNotMatter := by
  intro i s v
  obtain ⟨t, h⟩ := exec_completes i s
  have htwin {r : Reg} (hreads : ¬ readsReg i r = true) :
      ∃ w, exec i (putReg r s v) = .next (putReg r t w) ∧
        (w = regOf r t ∨ (w = v ∧ regOf r t = regOf r s ∧ t.written r = s.written r)) := by
    obtain ⟨_, hexec, w, rfl, hw⟩ := exec_twin (Bool.eq_false_iff.mpr hreads) v h
    exact ⟨w, hexec, hw⟩
  refine ⟨t, h, fun hA => htwin (r := .a) ?_, fun hX => htwin (r := .x) ?_, fun hY => htwin (r := .y) ?_⟩
  · rwa [readsReg_a_iff]
  · rwa [readsReg_x_iff]
  · rwa [readsReg_y_iff]

/-! Checked steps. -/

/-- The bytes fetched depend on the bus and PC alone. -/
theorem busAfter_of_agree {s s' : State} (hbus : s'.bus = s.bus) (hpc : s'.pc = s.pc) (n : Nat) : busAfter s' n = busAfter s n := by
  induction n with
  | zero => rw [busAfter, busAfter, hbus]
  | succ n ih => rw [busAfter, busAfter, ih, hpc]

/-- The fetch takes no notice of A, X and Y. -/
theorem fetch_of_agree {s s' u : State} {i : Instr} (hbus : s'.bus = s.bus) (hpc : s'.pc = s.pc) (h : s.fetch = .ok (i, u)) :
    ∃ b, u = s.setBus b ∧ s'.fetch = .ok (i, s'.setBus b) := by
  have hbyte (n : Nat) : byteFetched s' n = byteFetched s n := by
    rw [byteFetched, byteFetched, busAfter_of_agree hbus hpc, hpc]
  cases hdecode : decodeOpcode (byteFetched s 0) with
  | none => exact nomatch h.symm.trans (fetch_of_unmapped hdecode)
  | some f =>
    obtain ⟨rfl, rfl⟩ := Prod.ext_iff.mp (Except.ok.inj (h.symm.trans (fetch_of_mapped hdecode)))
    exact ⟨_, rfl, by rw [fetch_of_mapped (by rwa [hbyte]), hbyte, hbyte, busAfter_of_agree hbus hpc]⟩

/-- Where a written register has its own value put into it, an instruction that reads written registers alone completes with the same
value in it where it is then written. -/
theorem exec_putReg_of_written (r : Reg) {i : Instr} {s t : State} {v : Byte} (h : exec i s = .next t)
    (hv : s.written r = true → v = regOf r s) (hreads : readsReg i r = true → s.written r = true) :
    ∃ w, exec i (putReg r s v) = .next (putReg r t w) ∧ (t.written r = true → w = regOf r t) := by
  cases hw : s.written r with
  | true =>
    rw [hv hw, putReg_regOf]
    exact ⟨regOf r t, by rw [h, putReg_regOf], fun _ => rfl⟩
  | false =>
    have hunread : readsReg i r = false := Bool.eq_false_iff.mpr fun hr => nomatch hw.symm.trans (hreads hr)
    obtain ⟨_, hexec, w, rfl, hkept⟩ := exec_twin hunread v h
    refine ⟨w, hexec, fun htw => ?_⟩
    obtain hkept | ⟨-, -, hkept⟩ := hkept
    · exact hkept
    · exact absurd (hkept.symm.trans htw) (by simp [hw])

/-- A checked step that completes is the execution of an instruction that reads written registers alone (R307). -/
theorem checkedStep_eq_next {s t : State} (h : checkedStep s = .next t) :
    ∃ i u, s.fetch = .ok (i, u) ∧ u.firstUnwritten i = none ∧ exec i u = .next t := by
  unfold checkedStep at h
  split at h
  case h_1 => exact nomatch h
  case h_2 i u hfetch =>
    split at h
    case h_1 => exact nomatch h
    case h_2 hreg => exact ⟨i, u, hfetch, hreg, h⟩

theorem written_of_reads {i : Instr} {u : State} (h : u.firstUnwritten i = none) (r : Reg) (hreads : readsReg i r = true) :
    u.written r = true := by
  have hall := List.find?_eq_none.mp h r (by cases r <;> decide)
  simpa [hreads] using hall

/-- Settles O59: the values in unwritten registers are put in one after the other. -/
theorem checkedRunsDoNotSeeResetValues : Obligations.CheckedRunsDoNotSeeResetValues := by
  intro s s' t hagree h
  obtain ⟨ha, hx, hy, hs'⟩ := hagree
  obtain ⟨i, u, hfetch, hreg, hexec⟩ := checkedStep_eq_next h
  obtain ⟨b, rfl, hfetch'⟩ := fetch_of_agree (s' := s') (by rw [hs']) (by rw [hs']) hfetch
  have hput : s'.setBus b = putReg .y (putReg .x (putReg .a (s.setBus b) s'.a) s'.x) s'.y := by
    rw [hs']
    rfl
  have hreads := written_of_reads hreg
  obtain ⟨wa, hexecA, hwa⟩ := exec_putReg_of_written .a hexec ha (hreads .a)
  obtain ⟨wx, hexecX, hwx⟩ := exec_putReg_of_written .x hexecA hx (hreads .x)
  obtain ⟨wy, hexecY, hwy⟩ := exec_putReg_of_written .y hexecX hy (hreads .y)
  refine ⟨putReg .y (putReg .x (putReg .a t wa) wx) wy, ?_, hwa, hwx, hwy, rfl⟩
  rw [hput] at hfetch'
  rw [checkedStep_of_written hfetch' hreg, hexecY]

end Sys2Proof.Proofs
end

section
/-!
What the resolver returns by access class (spec/40_fetch_decode_execute.md rules R136 to R138).
-/

namespace Sys2Proof.Proofs

open Sys2Proof.Machine Sys2Proof.Claims

/-- The operands that the instructions of a class have (R136, R137). -/
inductive OperandOf : AccessClass → Operand → Prop where
  | immediate (imm : Byte) : OperandOf .read (.immediate imm)
  | memory (o : MemOperand) : OperandOf .read (.memory o)
  | write (o : MemOperand) : OperandOf .write (.memory o)
  | modify (o : MemOperand) : OperandOf .readModifyWrite (.memory o)
  | accumulator : OperandOf .accumulator .accumulator
  | jump (o : MemOperand) : OperandOf .jump (.memory o)
  | jumpIndirect (ptr : Addr) : OperandOf .jump (.indirect ptr)
  | branch (rel : Byte) : OperandOf .branch (.relative rel)
  | implied : OperandOf .implied .implied

theorem operandOf_accessClass (i : Instr) : OperandOf (accessClass i) i.operand := by
  cases exec_shape i with
  | read src _ _ _ operand ofClass _ =>
    rw [ofClass, operand]
    cases src with
    | immediate imm => exact .immediate imm
    | memory o => exact .memory o
  | write o _ _ operand ofClass _ => rw [ofClass, operand]; exact .write o
  | modify o _ _ operand ofClass _ => rw [ofClass, operand]; exact .modify o
  | accumulator _ _ operand ofClass _ => rw [ofClass, operand]; exact .accumulator
  | branch rel _ _ operand ofClass _ => rw [ofClass, operand]; exact .branch rel
  | implied _ _ _ operand ofClass _ => rw [ofClass, operand]; exact .implied
  | jsr addr => exact .jump (.absolute addr)
  | jmpAbs addr => exact .jump (.absolute addr)
  | jmpInd ptr => exact .jumpIndirect ptr
  | brk | rts | rti | pha | php | pla | plp => exact .implied

/-- The classes by mnemonic, and of the four shifts by mode (the table of R136). -/
theorem accessClass_table (i : Instr) :
    (accessClass i = .read ↔ i.mnemonic ∈ [.adc, .sbc, .and, .ora, .eor, .bit, .cmp, .cpx, .cpy, .lda, .ldx, .ldy]) ∧
    (accessClass i = .write ↔ i.mnemonic ∈ [.sta, .stx, .sty]) ∧
    (accessClass i = .readModifyWrite ↔ i.mnemonic ∈ [.asl, .lsr, .rol, .ror, .inc, .dec] ∧ i.mode ≠ .accumulator) ∧
    (accessClass i = .accumulator ↔ i.mnemonic ∈ [.asl, .lsr, .rol, .ror] ∧ i.mode = .accumulator) ∧
    (accessClass i = .jump ↔ i.mnemonic ∈ [.jmp, .jsr]) ∧
    (accessClass i = .branch ↔ i.mnemonic ∈ [.bcc, .bcs, .beq, .bne, .bmi, .bpl, .bvc, .bvs]) := by
  rw [accessClass]
  cases hm : i.mnemonic with
  | asl | lsr | rol | ror => by_cases hmode : i.mode = .accumulator <;> simp [hmode]
  | inc | dec =>
    have hmode : i.mode ≠ .accumulator := fun h => by simpa [hm] using mnemonic_of_accumulator h
    simp [hmode]
  | _ => simp

theorem memory_mode_ne_immediate (o : MemOperand) : (Operand.memory o).mode ≠ .immediate := by
  cases o <;> exact nofun

/-- Settles O15: the table, and the resolver on the operands of each class. -/
theorem resolverContractByClass : Obligations.ResolverContractByClass := by
  intro i s
  obtain ⟨hread, hwrite, hmodify, haccumulator, hjump, hbranch⟩ := accessClass_table i
  refine ⟨hread, hwrite, hmodify, haccumulator, hjump, hbranch, ?_⟩
  have hoperand := operandOf_accessClass i
  unfold State.resolveInstr Instr.mode
  generalize accessClass i = c at hoperand ⊢
  generalize i.operand = operand at hoperand ⊢
  refine ⟨?immediate, ?accumulator, ?memory, ?write, ?noValue, ?implied⟩
  case immediate =>
    rintro rfl hmode
    cases hoperand with
    | immediate imm => exact ⟨imm, rfl, rfl⟩
    | memory o => exact absurd hmode (memory_mode_ne_immediate o)
  case accumulator =>
    rintro rfl
    cases hoperand
    rfl
  case memory =>
    intro hc hmode
    cases hoperand with
    | immediate => exact absurd rfl hmode
    | memory o | modify o => exact ⟨o, rfl, by rw [resolve_memory_of_reads rfl]⟩
    | _ => simp at hc
  case write =>
    rintro rfl
    cases hoperand with
    | write o => exact ⟨o, rfl, rfl⟩
  case noValue =>
    intro hc
    cases hoperand with
    | jump | jumpIndirect | branch | implied => rfl
    | _ => simp at hc
  case implied =>
    rintro rfl
    cases hoperand
    exact ⟨rfl, rfl⟩

end Sys2Proof.Proofs
end
